-- ==== Sys2Proof/Word.lean ====
section
/-! DEFINITION. The word and the byte of OCL-BPE (00_scope.md R12: a word is 32 bits, a byte 8 bits, every quantity
unsigned; 10_state.md R24: arithmetic on registers is modulo 2^32, which is BitVec arithmetic). -/

namespace Sys2Proof

/-- A 32-bit word, bit 0 the least significant (R12). -/
abbrev Word := BitVec 32

/-- A byte (R12). -/
abbrev Byte := BitVec 8

end Sys2Proof
end

