-- ==== Sys2Proof/Syntax.lean ====
section
/-! DEFINITION. The names of the block (tags, operation kinds, protocol states, error kinds) and its instructions, one
constructor for each row of spec/opcode_table.json. The numeric codes of the names are in Machine/Operands.lean. -/

namespace Sys2Proof

/-- `TAG`: which wire opcode a command cycle carries (10_state.md R38). -/
inductive Tag where
  | probe | eraseAll | eraseBlock | flashBlock
  deriving DecidableEq, Repr, Inhabited

/-- `OP`: the host operation in progress (10_state.md R36). -/
inductive OpKind where
  | none | probe | erase | write
  deriving DecidableEq, Repr, Inhabited

/-- `PSTATE`: the state of the protocol state machine (10_state.md R37, 41_protocol_cycle.md R150). -/
inductive PState where
  | idle | cmdSent | awaitingAck | responseReceived | done | failed
  deriving DecidableEq, Repr, Inhabited

/-- `ERR_KIND`: the kind of the error that ended the last operation, or none (10_state.md R44, 60_exceptions.md R220). -/
inductive ErrKind where
  | none | transportTimeout | protocolFailure | bankNotProbed | bankInvalid | targetNotRunning | transportError
  deriving DecidableEq, Repr, Inhabited

/-- The tri-state of a sector's `erased` and `protected` markers (10_state.md R31). -/
inductive Tri where
  | unknown | yes | no
  deriving DecidableEq, Repr, Inhabited

/-- What a TransportError holds in the machine under the host's fixed names, `exec`, `step` and `State.reset`. Everything
below them takes the type as a parameter (`TransportErr`); DESIGN CHOICE of the one they stand at (log entry 5). -/
abbrev TransportValue : Type := Nat

/-- The value the Transport Port returns on a failed send or receive. "Its type is opaque … A model takes the type as a
parameter" (10_state.md R46): the type is `τ`, any type at all, in every definition that holds or copies one. -/
structure TransportErr (τ : Type) where
  token : τ
  deriving DecidableEq, Repr, Inhabited

/-- What a caller may ask of the block. "A model's host-operation type has exactly these three constructors"
(30_encoding.md R107, R92). -/
inductive HostOp where
  | probe
  | erase (first last : Word)
  | write (offset : Word) (payload : List Byte)
  deriving DecidableEq, Repr

/-- The 13 rows of spec/opcode_table.json. -/
inductive Instr where
  /-- `probe`, format W1 (30_encoding.md R95). -/
  | wireProbe
  /-- `erase-all`, format W1 (R96). -/
  | wireEraseAll
  /-- `erase-block`, format W3 (R97). -/
  | wireEraseBlock (first last : Word)
  /-- `flash-block`, format WF (R98): the run length of word 0, the offset of word 1, the data words, the checksum word. -/
  | wireFlashBlock (runlen : BitVec 16) (offset : Word) (data : List Word) (checksum : Word)
  /-- `done`, format RS (R103): a response word, success when it is `RSP_DONE` and a failure code otherwise. -/
  | respDone (code : Word)
  /-- `geometry`, format GW (R104): the four geometry words. -/
  | respGeometry (g0 g1 g2 g3 : Word)
  /-- `PROBE`, format H0 (R92, 42_probe.md R170). -/
  | hostProbe
  /-- `ERASE`, format H2 (R92, 43_erase.md R190). -/
  | hostErase (first last : Word)
  /-- `WRITE`, format HW (R92, 44_write.md R200). -/
  | hostWrite (offset : Word) (payload : List Byte)
  /-- `PACK` (40_block_packer.md R130). -/
  | pack (payload : List Byte) (o : Word)
  /-- `CYCLE` (41_protocol_cycle.md R151): the packet and its tag. -/
  | cycle (tag : Tag) (packet : List Word)
  /-- `DRAIN` (42_probe.md R171). -/
  | drain
  /-- `GEOMREAD` (42_probe.md R175). -/
  | geomRead
  deriving DecidableEq, Repr

/-- The instruction a host operation is (30_encoding.md R90, R92). -/
def HostOp.instr : HostOp → Instr
  | .probe => .hostProbe
  | .erase first last => .hostErase first last
  | .write offset payload => .hostWrite offset payload

end Sys2Proof
end

