-- ==== Sys2Proof/Config.lean ====
section
/-! DEFINITION. What is fixed for one block: the parameters of 00_scope.md R9 to R11, and the free values the spec
leaves open (93_implementation_defined.md U4, U5 and the error of an exceeded DRAIN_LIMIT), as constants with no body. -/

namespace Sys2Proof

/-- The parameters of the block. "A model must take the parameters as arguments" (00_scope.md R9): they stand in State,
where no step writes them, so that every statement about all states is about all parameters (log entry 1). -/
structure Params where
  /-- `OPC_PROBE` (R9). -/
  opcProbe : Word
  /-- `OPC_ERASE_ALL` (R9). -/
  opcEraseAll : Word
  /-- `OPC_ERASE_BLOCK` (R9). -/
  opcEraseBlock : Word
  /-- `OPC_FLASH_BLOCK` (R9). -/
  opcFlashBlock : Word
  /-- `RSP_DONE`, the success sentinel (R9). -/
  rspDone : Word
  /-- `CHKS_INIT`, the checksum seed (R9). -/
  chksInit : Word
  /-- `GEOM_TIMEOUT_MS`, 0 = wait indefinitely (R10, 92_eei_decisions.md D3). -/
  geomTimeoutMs : Word
  /-- `DRAIN_LIMIT`, none = unbounded (R11, D12). -/
  drainLimit : Option Nat
  /-- `MAX_SECTORS`, none = unbounded (R11, D5). -/
  maxSectors : Option Nat
  /-- `MAX_PAYLOAD`, none = any u32 (R11, D4). -/
  maxPayload : Option Nat
  deriving DecidableEq, Repr

/-- `ACK_TIMEOUT_MS` = 1000: "a fixed 1-second timeout" (00_scope.md R10). -/
def ackTimeoutMs : Word := 1000

/-- The defaults of 00_scope.md R9 and R10. PRESUMED: R9 marks the six numbers as general knowledge, "for tests only";
the reset state and the table's words take them (log entry 1). -/
def Params.default : Params where
  opcProbe := 0x0CBE0000
  opcEraseAll := 0x0CEA0000
  opcEraseBlock := 0x0CEB0000
  opcFlashBlock := 0x0CFB0000
  rspDone := 0x0ACD0000
  chksInit := 0xC100CD0C
  geomTimeoutMs := 0
  drainLimit := none
  maxSectors := none
  maxPayload := none

/-- The constraints a model must assume of the opcodes (00_scope.md R9): bits [15:0] are 0 and bits [31:16] differ
pairwise. -/
abbrev Params.wf (p : Params) : Prop :=
  p.opcProbe.extractLsb' 0 16 = 0 ∧ p.opcEraseAll.extractLsb' 0 16 = 0 ∧
  p.opcEraseBlock.extractLsb' 0 16 = 0 ∧ p.opcFlashBlock.extractLsb' 0 16 = 0 ∧
  p.opcProbe.extractLsb' 16 16 ≠ p.opcEraseAll.extractLsb' 16 16 ∧
  p.opcProbe.extractLsb' 16 16 ≠ p.opcEraseBlock.extractLsb' 16 16 ∧
  p.opcProbe.extractLsb' 16 16 ≠ p.opcFlashBlock.extractLsb' 16 16 ∧
  p.opcEraseAll.extractLsb' 16 16 ≠ p.opcEraseBlock.extractLsb' 16 16 ∧
  p.opcEraseAll.extractLsb' 16 16 ≠ p.opcFlashBlock.extractLsb' 16 16 ∧
  p.opcEraseBlock.extractLsb' 16 16 ≠ p.opcFlashBlock.extractLsb' 16 16

/-- FREE VALUE: the word the n-th accessor read returns where the spec leaves it open (U4, U5; log entry 6). -/
opaque Config.freeWord : Nat → Word

/-- FREE VALUE: the flag an accessor read returns where the spec leaves it open (U4; log entry 6). -/
opaque Config.freeFlag : Nat → Bool

/-- FREE VALUE: the tri-state an accessor read returns where the spec leaves it open (U4; log entry 6). -/
opaque Config.freeTri : Nat → Tri

/-- FREE VALUE: the tag an accessor read returns where the spec leaves it open (U4, U5; log entry 6). -/
opaque Config.freeTag : Nat → Tag

/-- FREE VALUE: the error kind an accessor read returns where the spec leaves it open (U4; log entry 6). -/
opaque Config.freeErrKind : Nat → ErrKind

/-- FREE VALUE: the transport error an accessor read returns where the spec leaves it open (U4, U5; log entry 6). -/
opaque Config.freeTransport {τ : Type} [Inhabited τ] : Nat → TransportErr τ

/-- FREE VALUE: the TransportError raised when the drain exceeds `DRAIN_LIMIT`, by the number of interface events
before it (42_probe.md R171 names the kind and not its content; log entry 7). -/
opaque Config.drainLimitError {τ : Type} [Inhabited τ] : Nat → TransportErr τ

end Sys2Proof
end

