-- ==== Sys2Proof/Decode.lean ====
section
/-! DEFINITION. The bit fields of the wire words, the closed form of the Block Packer, which gives a flash-block packet its
data words and checksum (30_encoding.md R98), the decoder of wire packets (R102, the receiver's side) and of responses (R103,
R104), total and rejecting by name, the encoder (R94 to R104), and which packets the block emits (R108). -/

namespace Sys2Proof

/-- Bits [31:16] of a word: the opcode field of word 0, and the buffer alignment of `G3` (30_encoding.md R98, R104). -/
def hi16 (w : Word) : BitVec 16 := w.extractLsb' 16 16

/-- Bits [15:0] of a word: the run length of word 0, and the buffer length of `G3` (30_encoding.md R98, R104). -/
def lo16 (w : Word) : BitVec 16 := w.extractLsb' 0 16

/-- `zext_32` of a 16-bit field (00_scope.md R12). -/
def zext32 (h : BitVec 16) : Word := h.setWidth 32

/-- The start lane `(offset mod BUF_ALIGN) mod 4` (44_write.md R204, 30_encoding.md R102). 00_scope.md R12 defines `mod` for
a nonzero divisor only, so it is no lane where `align` is 0; whoever uses it there has excluded 0 (`decodeCommand`,
`flashLegal`; log entry 18). -/
def startLane (align offset : Word) : Nat := (offset % align).toNat % 4

/-- The number of data words of `len` payload bytes that start at lane `lane`: `ceil((lane + len) / 4)`
(30_encoding.md R98, R102). -/
def dataWords (lane len : Nat) : Nat := (lane + len + 3) / 4

/-! ### The closed form of the Block Packer -/

/-- `lane(k, j)` of the closed form, with `start` the start lane `b0` (R131). -/
def packLane (payload : List Byte) (start k j : Nat) : Byte :=
  if start ≤ 4 * k + j then (payload[4 * k + j - start]?).getD 0xFF else 0xFF

/-- Four lanes as one word, lane 0 in bits 7 to 0 (R131, 20_memory.md R71). -/
def wordOfLanes (l0 l1 l2 l3 : Byte) : Word := l3 ++ l2 ++ l1 ++ l0

/-- `words[k]` of the closed form (R131). -/
def packWord (payload : List Byte) (start k : Nat) : Word :=
  wordOfLanes (packLane payload start k 0) (packLane payload start k 1)
    (packLane payload start k 2) (packLane payload start k 3)

/-- `N` of the closed form: 0 for an empty payload (R131, R137, R138). -/
def packCount (start n : Nat) : Nat := if n = 0 then 0 else dataWords start n

/-- `words` of PACK, closed form (R131); only `o mod 4` is used (R134). -/
def packWords (payload : List Byte) (o : Word) : List Word :=
  (List.range (packCount (o.toNat % 4) payload.length)).map (packWord payload (o.toNat % 4))

/-- `seed ^ words[0] ^ … ^ words[N-1]` (R132). -/
def checksumOf (seed : Word) (words : List Word) : Word := words.foldl (· ^^^ ·) seed

/-- Byte lane `j` of a word: bits `8j+7` to `8j` (00_scope.md R12). -/
def laneOf (w : Word) (j : Nat) : Byte := (w >>> (8 * j)).setWidth 8

/-- `unpack(words, b0, n)` (40_block_packer.md R139). -/
def unpack (words : List Word) (start n : Nat) : List Byte :=
  (List.range n).map fun i => laneOf ((words[(start + i) / 4]?).getD 0) ((start + i) % 4)

/-! ### Packets -/

/-- The packet of a flash-block is one that the block of `BUF_LEN` `len` and `BUF_ALIGN` `align` can emit, a chunk's:
- the block has a start lane at all, so it is probed (00_scope.md R12, 30_encoding.md R102; log entry 18);
- the run length is not 0, and the chunk stays within the device buffer, so it is not above `BUF_LEN` either
  (30_encoding.md R98, R108, 20_memory.md R75);
- there are no more than `BUF_LEN / 4` data words (R102), and they are the packed words of the run length's bytes they hold
  from the start lane on (R98): as many as these need, every other lane 0xFF (40_block_packer.md R135, R136);
- the checksum word is `CHKS_INIT` and the data words, by exclusive or (R98, R101).
What the block does with any other is the model's choice (log entry 18). -/
def flashLegal (p : Params) (len align : Word) (runlen : BitVec 16) (offset : Word) (data : List Word) (checksum : Word) :
    Bool :=
  align != 0 && runlen != 0 && decide ((offset % align).toNat + runlen.toNat ≤ len.toNat) &&
    decide (data.length ≤ len.toNat / 4) &&
    data == packWords (unpack data (startLane align offset) runlen.toNat) (offset % align) &&
    checksum == checksumOf p.chksInit data

/-- `word0 = OPC_FLASH_BLOCK | zext_32(RUNLEN)` (30_encoding.md R99). -/
def flashWord0 (p : Params) (runlen : Word) : Word := p.opcFlashBlock ||| runlen

/-- Why a packet has no instruction. -/
inductive DecodeError where
  /-- No word at all. -/
  | empty
  /-- Bits [31:16] of word 0 are no opcode's (30_encoding.md R105, R108). -/
  | unknownOpcode (word0 : Word)
  /-- Fewer words than the format has (30_encoding.md R102). -/
  | truncated (word0 : Word)
  /-- A flash-block opcode where `BUF_ALIGN` is 0: its length needs a start lane (30_encoding.md R102), and `mod 0` is not
  defined (00_scope.md R12). That the packet is then rejected is the model's choice (log entry 18). -/
  | noStartLane (word0 : Word)
  /-- Fewer than the four geometry words (30_encoding.md R104). -/
  | shortGeometry
  deriving DecidableEq, Repr

/-- A wire command from its words, and the words left over (30_encoding.md R95 to R98, R102). `align` is the
receiver's `BUF_ALIGN`, which the length of a flash-block packet depends on. The decoder finds the length for every run
length, as R102 gives it; which packets the block itself sends is `flashLegal`. -/
def decodeCommand (p : Params) (align : Word) : List Word → Except DecodeError (Instr × List Word)
  | [] => .error .empty
  | w :: ws =>
    if w = p.opcProbe then .ok (.wireProbe, ws)
    else if w = p.opcEraseAll then .ok (.wireEraseAll, ws)
    else if w = p.opcEraseBlock then
      match ws with
      | first :: last :: rest => .ok (.wireEraseBlock first last, rest)
      | _ => .error (.truncated w)
    else if hi16 w = hi16 p.opcFlashBlock then
      if align = 0 then .error (.noStartLane w)
      else
        match ws with
        | [] => .error (.truncated w)
        | offset :: body =>
          match body.drop (dataWords (startLane align offset) (lo16 w).toNat) with
          | [] => .error (.truncated w)
          | checksum :: rest =>
            .ok (.wireFlashBlock (lo16 w) offset
              (body.take (dataWords (startLane align offset) (lo16 w).toNat)) checksum, rest)
    else .error (.unknownOpcode w)

/-- A response word: "Every 32-bit value is a legal response word" (30_encoding.md R103, R109). -/
def decodeResponse : List Word → Except DecodeError (Instr × List Word)
  | [] => .error .empty
  | w :: ws => .ok (.respDone w, ws)

/-- The four geometry words (30_encoding.md R104, R109). -/
def decodeGeometry : List Word → Except DecodeError (Instr × List Word)
  | g0 :: g1 :: g2 :: g3 :: ws => .ok (.respGeometry g0 g1 g2 g3, ws)
  | _ => .error .shortGeometry

/-- A packet whose direction is not known, as the opcode table's first words are told apart: a command, else the
success sentinel. Any other word 0 is rejected by name. DESIGN CHOICE: the spec's decoders know their direction (log
entry 15). -/
def decodePacket (p : Params) (align : Word) (ws : List Word) : Except DecodeError (Instr × List Word) :=
  match decodeCommand p align ws with
  | .ok r => .ok r
  | .error e =>
    match e, ws with
    | .unknownOpcode _, w :: rest => if w = p.rspDone then .ok (.respDone w, rest) else .error e
    | _, _ => .error e

/-- The wire words of an instruction (30_encoding.md R95 to R99, R103, R104); none for the host and internal
operations, which have no encoding (R92, R111). -/
def encode (p : Params) : Instr → Option (List Word)
  | .wireProbe => some [p.opcProbe]
  | .wireEraseAll => some [p.opcEraseAll]
  | .wireEraseBlock first last => some [p.opcEraseBlock, first, last]
  | .wireFlashBlock runlen offset data checksum =>
    some (flashWord0 p (zext32 runlen) :: offset :: (data ++ [checksum]))
  | .respDone code => some [code]
  | .respGeometry g0 g1 g2 g3 => some [g0, g1, g2, g3]
  | .hostProbe => none
  | .hostErase _ _ => none
  | .hostWrite _ _ => none
  | .pack _ _ => none
  | .cycle _ _ => none
  | .drain => none
  | .geomRead => none

/-- The decoder for the direction an instruction's words travel in (30_encoding.md R94, R103, R104). -/
def decodeLike (p : Params) (align : Word) : Instr → List Word → Except DecodeError (Instr × List Word)
  | .wireProbe => decodeCommand p align
  | .wireEraseAll => decodeCommand p align
  | .wireEraseBlock _ _ => decodeCommand p align
  | .wireFlashBlock _ _ _ _ => decodeCommand p align
  | .respDone _ => decodeResponse
  | .respGeometry _ _ _ _ => decodeGeometry
  | .hostProbe => fun _ => .error .empty
  | .hostErase _ _ => fun _ => .error .empty
  | .hostWrite _ _ => fun _ => .error .empty
  | .pack _ _ => fun _ => .error .empty
  | .cycle _ _ => fun _ => .error .empty
  | .drain => fun _ => .error .empty
  | .geomRead => fun _ => .error .empty

/-- The tag a wire command carries (10_state.md R38). -/
def tagOf : Instr → Option Tag
  | .wireProbe => some .probe
  | .wireEraseAll => some .eraseAll
  | .wireEraseBlock _ _ => some .eraseBlock
  | .wireFlashBlock _ _ _ _ => some .flashBlock
  | .respDone _ => none
  | .respGeometry _ _ _ _ => none
  | .hostProbe => none
  | .hostErase _ _ => none
  | .hostWrite _ _ => none
  | .pack _ _ => none
  | .cycle _ _ => none
  | .drain => none
  | .geomRead => none

/-- The block can emit the wire command's packet (30_encoding.md R98, R108): any but a flash-block that is no chunk's. -/
def Instr.emittable (p : Params) (len align : Word) : Instr → Bool
  | .wireFlashBlock runlen offset data checksum => flashLegal p len align runlen offset data checksum
  | .wireProbe => true
  | .wireEraseAll => true
  | .wireEraseBlock _ _ => true
  | .respDone _ => true
  | .respGeometry _ _ _ _ => true
  | .hostProbe => true
  | .hostErase _ _ => true
  | .hostWrite _ _ => true
  | .pack _ _ => true
  | .cycle _ _ => true
  | .drain => true
  | .geomRead => true

/-- Whether a word sequence is exactly one wire command that carries `tag` and that the block can emit
(41_protocol_cycle.md R151: "one of the formats of 30_encoding.md rules R95 to R98"; 30_encoding.md R108), a flash-block with its
run length, data words and checksum as R98 has them (`flashLegal`; log entry 18). -/
def isPacketOf (p : Params) (len align : Word) (tag : Tag) (packet : List Word) : Bool :=
  match decodeCommand p align packet with
  | .ok (i, rest) => decide (tagOf i = some tag) && rest.isEmpty && i.emittable p len align
  | .error _ => false

/-- The `n` words of `w`, least significant first (the first word's bit 0 is bit 0 of `w`). -/
def wordsOfNat (w : Nat) : Nat → List Word
  | 0 => []
  | n + 1 => BitVec.ofNat 32 w :: wordsOfNat (w / 2 ^ 32) n

/-- The words of a table word of `nbits` bits: its own words, then operand words of zeros up to the length of its
instruction (30_encoding.md R97, R102; a zero offset starts at lane 0 for every alignment). -/
def tableWords (nbits w : Nat) : List Word :=
  let own := wordsOfNat w ((nbits + 31) / 32)
  let w0 : Word := BitVec.ofNat 32 w
  let p := Params.default
  let len :=
    if w0 = p.opcEraseBlock then 3
    else if hi16 w0 = hi16 p.opcFlashBlock then
      3 + dataWords (startLane 1 ((own.drop 1).headD 0)) (lo16 w0).toNat
    else 1
  own ++ List.replicate (len - own.length) 0

/-- The instruction the decoder reads from a table word, by the default parameters (the table's `match` values are
those defaults, log entry 1). -/
def decodeTableWord (nbits w : Nat) : Option Instr :=
  match decodePacket Params.default 1 (tableWords nbits w) with
  | .ok (i, _) => some i
  | .error _ => none

end Sys2Proof
end

