-- ==== Sys2Proof/WellFormed.lean ====
section
/-! DEFINITION. Which instructions are well formed: the checks a typed term can fail. -/

namespace Sys2Proof

/-- `Instr.wf p len align i`: under the parameters `p` and the block's `BUF_LEN` `len` and `BUF_ALIGN` `align`,
- a flash-block packet is a chunk's, in its run length, its data words with their filler lanes, and its checksum
  (30_encoding.md R98, R102, R108; `flashLegal`);
- the payload of WRITE and of PACK has a length that is a u32 (20_memory.md R61, 40_block_packer.md R130);
- the packet of CYCLE is exactly one such wire command, with the cycle's tag (41_protocol_cycle.md R151).
Every other term is well formed. -/
def Instr.wf (p : Params) (len align : Word) : Instr → Bool
  | .wireProbe => true
  | .wireEraseAll => true
  | .wireEraseBlock _ _ => true
  | .wireFlashBlock runlen offset data checksum => flashLegal p len align runlen offset data checksum
  | .respDone _ => true
  | .respGeometry _ _ _ _ => true
  | .hostProbe => true
  | .hostErase _ _ => true
  | .hostWrite _ payload => decide (payload.length < 2 ^ 32)
  | .pack payload _ => decide (payload.length < 2 ^ 32)
  | .cycle tag packet => isPacketOf p len align tag packet
  | .drain => true
  | .geomRead => true

end Sys2Proof
end

