-- ==== Sys2Proof/Machine/State.lean ====
section
/-! DEFINITION. The state of one block: the registers of 10_state.md R20, each group a structure, and the model's own
fields (INVENTORY.md, '## State'; log entry 4). Whatever holds a TransportError takes its type as a parameter (R46; log
entry 5). Reset is 10_state.md R51. -/

namespace Sys2Proof.Machine

/-- The Bank Model and the Device Buffer Descriptor (10_state.md R25 to R29). The sector table is a function of them
(R30; `State.sect`). -/
structure Bank where
  /-- `BASE_ADDR` (R25). -/
  baseAddr : Word
  /-- `TOTAL_SIZE` (R26). -/
  totalSize : Word
  /-- `SECT_COUNT` (R27). -/
  sectCount : Word
  /-- `BUF_LEN` (R28). -/
  bufLen : Word
  /-- `BUF_ALIGN` (R29). -/
  bufAlign : Word
  deriving DecidableEq, Repr

/-- The unprobed bank: all zero (R33, R51). -/
def Bank.unprobed : Bank := ⟨0, 0, 0, 0, 0⟩

/-- One record of the sector table (R30, R31). -/
structure Sector where
  offset : Word
  size : Word
  erased : Tri
  guarded : Tri
  deriving DecidableEq, Repr

/-- The geometry words `G0` to `G3` (R39). -/
structure Geom where
  g0 : Word
  g1 : Word
  g2 : Word
  g3 : Word
  deriving DecidableEq, Repr

/-- The working registers of WRITE (R40). -/
structure Transfer where
  /-- `CUR_OFFSET`. -/
  curOffset : Word
  /-- `REMAINING`. -/
  remaining : Word
  /-- `RUNLEN`. -/
  runLen : Word
  /-- `PAY_POS`. -/
  payPos : Word
  deriving DecidableEq, Repr

/-- The packer registers (R42). -/
structure Packer where
  /-- `WORD_ACC`. -/
  wordAcc : Word
  /-- `BYTEOFS`, the lane the next byte goes to. -/
  byteOfs : BitVec 2
  /-- `CHKSUM`. -/
  chkSum : Word
  /-- `NWORDS`. -/
  nWords : Word
  deriving DecidableEq, Repr

/-- The staging buffer `STG`, the only memory the block owns: (word index, word) pairs (R41, 20_memory.md R62), in
one canonical form (`Memory.wf`), each index below `STG_WORDS` (`Bank.stgWords`, `Memory.within`). -/
abbrev Memory := List (Nat × Word)

/-- The latched arguments of the operation in progress (30_encoding.md R91, 20_memory.md R85). -/
structure Args where
  first : Word
  last : Word
  offset : Word
  payload : List Byte
  deriving DecidableEq, Repr

/-- No arguments. -/
def Args.empty : Args := ⟨0, 0, 0, []⟩

/-- What the pseudocode of files 41 to 44 does next: a call whose answer the environment owes, or an internal
computation (00_scope.md R4). The model's own field (log entry 4). -/
inductive Phase where
  /-- Nothing is in flight. -/
  | idle
  /-- Call: `TGT.is_running()` (43_erase.md R192, 44_write.md R201). -/
  | runCheck
  /-- Call: `TP.rx_pending()` of DRAIN (42_probe.md R171). -/
  | drainPoll
  /-- Call: `TP.receive(1)` of DRAIN, the word discarded (R171). -/
  | drainTake
  /-- Call: `TP.send` of the first `n` words of `STG` (41_protocol_cycle.md R152). -/
  | send (n : Nat)
  /-- Internal: the engine calls the handshake (R150 transition 3). -/
  | sent
  /-- Call: `TP.handshake(1000)` (R154). -/
  | ackWait
  /-- Call: `TP.receive(1)` of the response word (R155). -/
  | respRead
  /-- Internal: the compare of the response word (R156). -/
  | respCheck
  /-- Call: `TP.handshake(GEOM_TIMEOUT_MS)` (42_probe.md R175). -/
  | geomWait
  /-- Call: `TP.receive(1)` of a geometry word (R175). -/
  | geomRead
  /-- Internal: the validation of the geometry (R178). -/
  | geomCheck
  /-- Internal: the head of WRITE's loop (44_write.md R200). -/
  | chunk
  deriving DecidableEq, Repr

/-- What waits to be run when nothing is in flight: a caller's host operation (30_encoding.md R92), a part of an
operation given as a term, or a packet given as its words (log entry 8). -/
inductive Call where
  | host (h : HostOp)
  | part (i : Instr)
  | packet (ws : List Word)
  deriving DecidableEq, Repr

/-- Why the machine stops with a fault. -/
inductive Fault where
  /-- Raised by `execCycle` when `PSTATE` is not `IDLE`: "a transition not in the table does not exist"
  (41_protocol_cycle.md R150), "Precondition: PSTATE = IDLE" (R151). Safe: no state follows (log entry 11). -/
  | noTransition
  deriving DecidableEq, Repr

/-- Why an instruction is not run. -/
inductive Refusal where
  /-- Raised by an arm of `exec` that has no meaning yet. Safe. -/
  | notModelled (mnemonic : String)
  /-- Raised by a host or internal operation or a wire command while another is in flight: "a model refuses it"
  (30_encoding.md R91, 93_implementation_defined.md U3). Safe. -/
  | operationInProgress
  /-- Raised by `execHostWrite` for a payload longer than `MAX_PAYLOAD` or than a u32 (00_scope.md R11,
  92_eei_decisions.md D4). Safe (log entry 10). -/
  | payloadTooLong
  /-- Raised by `step` for a term that is not well formed (`Instr.wf`), and by `execWireFlashBlock` and `execCycle` for a
  packet the block never emits (30_encoding.md R108, R98, 41_protocol_cycle.md R151): one in none of the four formats, and a
  flash-block that is no chunk's (`flashLegal`: its run length, data words, filler lanes and checksum). The spec gives no effect
  for such a packet; that it is refused is the model's choice. Safe (log entry 18). -/
  | illFormed
  /-- Raised by `step` for words that are no packet. Safe. -/
  | undecodable (e : DecodeError)
  deriving DecidableEq, Repr

end Sys2Proof.Machine

namespace Sys2Proof.Machine.Block

/-! Whatever holds a TransportError takes its type `τ` as a parameter (R46). -/

/-- The error registers (R44 to R47). `failValid` is the model's own: whether the last error defined `FAIL_OFFSET`. -/
structure ErrRegs (τ : Type) where
  /-- `ERR_KIND` (R44). -/
  kind : ErrKind
  /-- `ERR_TAG` (R45). -/
  tag : Tag
  /-- `ERR_RAW` (R45). -/
  raw : Word
  /-- `ERR_TRANSPORT` (R46). -/
  transport : TransportErr τ
  /-- `FAIL_OFFSET` (R47). -/
  failOffset : Word
  failValid : Bool
  deriving DecidableEq, Repr

/-- One answer of the environment, general enough to answer every call (20_memory.md R66 to R70): `good` is ok, ack or
true; `word` is the word of a successful receive; `err` the error of a failed send or receive. -/
structure Reply (τ : Type) where
  good : Bool
  word : Word
  err : TransportErr τ
  deriving DecidableEq, Repr

/-- What `TP.receive(1)` returned (20_memory.md R67). -/
inductive Received (τ : Type) where
  | word (w : Word)
  | err (e : TransportErr τ)
  deriving DecidableEq, Repr

/-- An interface event (00_scope.md R15). -/
inductive Event (τ : Type) where
  /-- `SEND[ws]`, and its error if it failed. -/
  | send (ws : List Word) (failed : Option (TransportErr τ))
  /-- `HS(t) -> ack` (true) or `-> timeout` (false). -/
  | hs (t : Word) (ack : Bool)
  /-- `RECV(1) -> [w]` or `-> err(e)`. -/
  | recv (r : Received τ)
  /-- `RXP -> true|false`. -/
  | rxp (b : Bool)
  /-- `RUN? -> true|false`. -/
  | run (b : Bool)
  deriving DecidableEq, Repr

/-- An error and the information it records (60_exceptions.md R220). "A model makes them fields of the error
constructor so they cannot be read" (93_implementation_defined.md U5). -/
inductive ErrInfo (τ : Type) where
  | transportTimeout
  | protocolFailure (tag : Tag) (raw : Word)
  | bankNotProbed
  | bankInvalid
  | targetNotRunning
  | transportError (e : TransportErr τ)
  deriving DecidableEq, Repr

/-- The result of a host operation (10_state.md R48, 30_encoding.md R93); `failOffset` only for an error inside the
chunk loop of WRITE (R47). -/
inductive OpResult (τ : Type) where
  | ok
  | err (info : ErrInfo τ) (failOffset : Option Word)
  deriving DecidableEq, Repr

/-- The state of one block and of what stands around it, over the type `τ` of what a TransportError holds (R46). -/
structure State (τ : Type) where
  /-- The Bank Model and the Device Buffer Descriptor. -/
  bank : Bank
  /-- `OP` (R36). -/
  op : OpKind
  /-- `PSTATE` (R37). -/
  pstate : PState
  /-- `TAG` (R38). -/
  tag : Tag
  /-- `GIDX` (R39). -/
  gidx : BitVec 3
  /-- `G0` to `G3` (R39). -/
  geom : Geom
  /-- `CUR_OFFSET`, `REMAINING`, `RUNLEN`, `PAY_POS` (R40). -/
  xfer : Transfer
  /-- `STG` (R41). -/
  stg : Memory
  /-- `WORD_ACC`, `BYTEOFS`, `CHKSUM`, `NWORDS` (R42). -/
  packer : Packer
  /-- The words the last PACK run alone returned (40_block_packer.md R130). The model's own field: within a WRITE the words
  are in `STG` (R133; log entry 4). -/
  packed : List Word
  /-- `RESP` (R43). -/
  resp : Word
  /-- `ERR_KIND`, `ERR_TAG`, `ERR_RAW`, `ERR_TRANSPORT`, `FAIL_OFFSET` (R44 to R47). -/
  err : ErrRegs τ
  /-- The parameters (00_scope.md R9 to R11); no step writes them. -/
  cfg : Params
  /-- The latched arguments (30_encoding.md R91). -/
  args : Args
  /-- The position in the pseudocode. -/
  phase : Phase
  /-- Whether a host operation is running (true) or one bare part of one (false). -/
  whole : Bool
  /-- The stale words the drain in progress has discarded, for `DRAIN_LIMIT` (42_probe.md R171). -/
  drained : Nat
  /-- The environment's answers, the next one first (00_scope.md R17). -/
  replies : List (Reply τ)
  /-- The interface events so far, oldest first (00_scope.md R15). -/
  trace : List (Event τ)
  /-- The results delivered, oldest first (10_state.md R48). -/
  results : List (OpResult τ)
  /-- What the caller submits, the next one first (00_scope.md R17). -/
  calls : List Call
  /-- The reset input (70_reset_and_hazards.md R262). -/
  resetLine : Bool
  deriving DecidableEq, Repr

end Sys2Proof.Machine.Block

namespace Sys2Proof.Machine

/-- The state of the machine under the host's fixed names (log entry 5). -/
abbrev State : Type := Block.State TransportValue

/-- An answer to that machine. -/
abbrev Reply : Type := Block.Reply TransportValue

/-- What a receive of that machine returns. -/
abbrev Received : Type := Block.Received TransportValue

/-- An interface event of that machine. -/
abbrev Event : Type := Block.Event TransportValue

/-- An error of that machine. -/
abbrev ErrInfo : Type := Block.ErrInfo TransportValue

/-- A result of that machine. -/
abbrev OpResult : Type := Block.OpResult TransportValue

/-- The error registers of that machine. -/
abbrev ErrRegs : Type := Block.ErrRegs TransportValue

/-- The state after reset (10_state.md R51): the Bank Model zero, `OP = NONE`, `PSTATE = IDLE`, `ERR_KIND = NONE`.
R51 leaves the other registers unspecified: zero, DESIGN CHOICE (log entry 2); no inputs wait. -/
def Block.State.initial {τ : Type} [Inhabited τ] : Block.State τ where
  bank := Bank.unprobed
  op := .none
  pstate := .idle
  tag := .probe
  gidx := 0
  geom := ⟨0, 0, 0, 0⟩
  xfer := ⟨0, 0, 0, 0⟩
  stg := []
  packer := ⟨0, 0, 0, 0⟩
  packed := []
  resp := 0
  err := ⟨.none, .probe, 0, default, 0, false⟩
  cfg := Params.default
  args := Args.empty
  phase := .idle
  whole := false
  drained := 0
  replies := []
  trace := []
  results := []
  calls := []
  resetLine := false

/-- The machine right after reset. -/
def State.reset : State := Block.State.initial

end Sys2Proof.Machine
end

