-- ==== Sys2Proof/Machine/Flags.lean ====
section
/-! DEFINITION. The derived flags `PROBED` and `BUSY` (10_state.md R34, R49), when the machine has something in flight, and
the state it waits in. They are computed from the registers and stored nowhere. -/

namespace Sys2Proof.Machine

variable {τ : Type}

/-- `PROBED = (SECT_COUNT != 0) and (BUF_LEN != 0) and (BUF_ALIGN != 0)` (10_state.md R34). -/
def Bank.probed (b : Bank) : Bool := b.sectCount != 0 && b.bufLen != 0 && b.bufAlign != 0

/-- `PROBED` of a state (R34). -/
def Block.State.probed (s : Block.State τ) : Bool := s.bank.probed

/-- `BUSY = (OP != NONE)` (10_state.md R49). -/
def Block.State.busy (s : Block.State τ) : Bool := s.op != .none

/-- An operation is in progress, or a bare part of one is in flight: nothing new is accepted (30_encoding.md R91). -/
def Block.State.engaged (s : Block.State τ) : Bool := s.busy || s.phase != .idle

/-- The state of D0's machine that the block waits in (20_memory.md R68): a block in a handshake without a time limit "is
stuck in `AWAITING_ACK`" for as long as the bit does not assert. Everywhere else it is `PSTATE`'s. The register `PSTATE` itself
stays `DONE` in that handshake, for 42_probe.md R175 says so (DEDUCED, log entry 19). -/
def Block.State.waitState (s : Block.State τ) : PState :=
  if s.phase = .geomWait ∧ s.cfg.geomTimeoutMs = 0 then .awaitingAck else s.pstate

end Sys2Proof.Machine
end

