-- ==== Sys2Proof/Machine/Operands.lean ====
section
/-! DEFINITION. The values operations compute from their operands and registers: numeric codes, the sector table, the
fields of the geometry words, the six checks, the chunk length. -/

namespace Sys2Proof.Machine

variable {τ : Type}

/-- The numeric code of a tag (10_state.md R38). -/
def tagCode : Tag → BitVec 2
  | .probe => 0
  | .eraseAll => 1
  | .eraseBlock => 2
  | .flashBlock => 3

/-- The numeric code of an operation kind (10_state.md R36). -/
def opCode : OpKind → BitVec 2
  | .none => 0
  | .probe => 1
  | .erase => 2
  | .write => 3

/-- The numeric code of a protocol state (10_state.md R37). -/
def pstateCode : PState → BitVec 3
  | .idle => 0
  | .cmdSent => 1
  | .awaitingAck => 2
  | .responseReceived => 3
  | .done => 4
  | .failed => 5

/-- The numeric code of an error kind (10_state.md R44). -/
def errKindCode : ErrKind → BitVec 3
  | .none => 0
  | .transportTimeout => 1
  | .protocolFailure => 2
  | .bankNotProbed => 3
  | .bankInvalid => 4
  | .targetNotRunning => 5
  | .transportError => 6

/-- The numeric code of a tri-state (10_state.md R31). -/
def triCode : Tri → BitVec 2
  | .unknown => 0
  | .yes => 1
  | .no => 2

/-- The kind of an error (60_exceptions.md R220). -/
def Block.ErrInfo.kind : Block.ErrInfo τ → ErrKind
  | .transportTimeout => .transportTimeout
  | .protocolFailure _ _ => .protocolFailure
  | .bankNotProbed => .bankNotProbed
  | .bankInvalid => .bankInvalid
  | .targetNotRunning => .targetNotRunning
  | .transportError _ => .transportError

/-- The two groups callers distinguish (60_exceptions.md R224): true for the link group (kinds 1, 5, 6). -/
def ErrKind.isLink : ErrKind → Bool
  | .transportTimeout => true
  | .targetNotRunning => true
  | .transportError => true
  | .none => false
  | .protocolFailure => false
  | .bankNotProbed => false
  | .bankInvalid => false

/-- The loader group of 60_exceptions.md R224 (kinds 2, 4). -/
def ErrKind.isLoader : ErrKind → Bool
  | .protocolFailure => true
  | .bankInvalid => true
  | .none => false
  | .transportTimeout => false
  | .bankNotProbed => false
  | .targetNotRunning => false
  | .transportError => false

/-- `SECT[i]` (10_state.md R30, R31): offset `i * (TOTAL_SIZE / SECT_COUNT)`, size `TOTAL_SIZE / SECT_COUNT`, both
markers `unknown`; no record at or beyond `SECT_COUNT`, so none when the bank is not probed. -/
def Bank.sect (b : Bank) (i : Nat) : Option Sector :=
  if i < b.sectCount.toNat then
    some ⟨BitVec.ofNat 32 i * (b.totalSize / b.sectCount), b.totalSize / b.sectCount, .unknown, .unknown⟩
  else none

/-- `SECT[i]` of a state. -/
def Block.State.sect (s : Block.State τ) (i : Nat) : Option Sector := s.bank.sect i

/-- `STG_WORDS = BUF_LEN / 4 + 3` (10_state.md R41). -/
def Bank.stgWords (b : Bank) : Nat := b.bufLen.toNat / 4 + 3

/-- `G<k> <- w` for `k` = 0 to 3 (42_probe.md R175). -/
def Geom.set (g : Geom) (k : BitVec 3) (w : Word) : Geom :=
  { g0 := if k = 0 then w else g.g0
    g1 := if k = 1 then w else g.g1
    g2 := if k = 2 then w else g.g2
    g3 := if k = 3 then w else g.g3 }

/-- The bank the geometry words describe (42_probe.md R176, R177; 30_encoding.md R104): the length from `G3[15:0]`, the
alignment from `G3[31:16]`, read as 1 if reported as 0. -/
def Geom.decode (g : Geom) : Bank where
  baseAddr := g.g0
  totalSize := g.g1
  sectCount := g.g2
  bufLen := zext32 (lo16 g.g3)
  bufAlign := if hi16 g.g3 = 0 then 1 else zext32 (hi16 g.g3)

/-- `nsect <= MAX_SECTORS` where the parameter is set: "A probe reporting more sectors than MAX_SECTORS is then
BankInvalid" (92_eei_decisions.md D5). -/
def sectorsFit (p : Params) (nsect : Word) : Bool :=
  match p.maxSectors with
  | none => true
  | some m => decide (nsect.toNat ≤ m)

/-- The checks (a) to (f) of 42_probe.md R178 on the decoded geometry, and the sector limit of D5: true when all pass.
The two guarded by a divisor stand behind it (R179). -/
def Bank.valid (p : Params) (b : Bank) : Bool :=
  b.sectCount != 0 && b.totalSize % b.sectCount == 0 && b.bufLen != 0 && decide (b.bufAlign ≤ b.bufLen)
    && b.bufLen % b.bufAlign == 0 && b.bufLen % 4 == 0 && sectorsFit p b.sectCount

/-- The range of ERASE "spans the entire bank" (43_erase.md R193). -/
def Bank.spans (b : Bank) (first last : Word) : Bool := first == 0 && last == b.sectCount - 1

/-- `min(REMAINING, BUF_LEN - (CUR_OFFSET mod BUF_ALIGN))` (44_write.md R203). -/
def Bank.chunkLen (b : Bank) (curOffset remaining : Word) : Word :=
  if remaining ≤ b.bufLen - curOffset % b.bufAlign then remaining else b.bufLen - curOffset % b.bufAlign

/-- `o = (CUR_OFFSET mod BUF_ALIGN) mod 4` (44_write.md R204). -/
def Bank.chunkLane (b : Bank) (curOffset : Word) : Word := curOffset % b.bufAlign % 4

/-- The payload is longer than a u32 holds, or than `MAX_PAYLOAD` where it is set (20_memory.md R61, D4). -/
def payloadTooLong (p : Params) (payload : List Byte) : Bool :=
  decide (2 ^ 32 ≤ payload.length) ||
    match p.maxPayload with
    | none => false
    | some m => decide (m < payload.length)

end Sys2Proof.Machine
end

