-- ==== Sys2Proof/Machine/Packer.lean ====
section
/-! DEFINITION. The staging buffer as a memory in canonical form, and the Block Packer: its sequential form, which the
machine runs (40_block_packer.md R133). Its closed form (R131, R132) is in Decode.lean. -/

namespace Sys2Proof.Machine

/-- What a word of `STG` that nothing has written reads as. DESIGN CHOICE: 10_state.md R51 leaves it unspecified; no
packet sends such a word (log entry 3). -/
def stgDefault : Word := 0

/-- `STG[k]` (10_state.md R41). -/
def Memory.read : Memory → Nat → Word
  | [], _ => stgDefault
  | (a, v) :: m, k => if a = k then v else Memory.read m k

/-- The word of index `k` is `w`, in the canonical form. -/
def Memory.set : Memory → Nat → Word → Memory
  | [], k, w => if w = stgDefault then [] else [(k, w)]
  | (a, v) :: m, k, w =>
    if k < a then (if w = stgDefault then (a, v) :: m else (k, w) :: (a, v) :: m)
    else if k = a then (if w = stgDefault then m else (k, w) :: m)
    else (a, v) :: Memory.set m k w

/-- `STG[k] <- w` in a staging buffer of `size` words (00_scope.md R13, 10_state.md R41: `STG[k]` for `0 <= k < STG_WORDS`).
There is no word at or above `size`, so none is written there: a packet always fits (44_write.md R207, 30_encoding.md R102),
and only a PACK run alone can have more words, which it returns (`State.packed`; log entry 3). -/
def Memory.write (size : Nat) (m : Memory) (k : Nat) (w : Word) : Memory := if k < size then m.set k w else m

/-- `STG[k ..] <- ws` (44_write.md R200). -/
def Memory.writeAll (size : Nat) : Memory → Nat → List Word → Memory
  | m, _, [] => m
  | m, k, w :: ws => Memory.writeAll size (Memory.write size m k w) (k + 1) ws

/-- The staging buffer when its size becomes `size`: the words at or above it are no more (10_state.md R41). -/
def Memory.fit (size : Nat) (m : Memory) : Memory := m.filter fun a => decide (a.1 < size)

/-- Every index is below `size` (10_state.md R41). -/
def Memory.within (size : Nat) (m : Memory) : Bool := m.all fun a => decide (a.1 < size)

/-- `STG[k .. k+n-1]` (20_memory.md R62: word 0 is the first word sent). -/
def Memory.words (m : Memory) (k : Nat) : Nat → List Word
  | 0 => []
  | n + 1 => Memory.read m k :: Memory.words m (k + 1) n

/-- The canonical form: indices strictly rising, no entry equal to what an unlisted index reads as. -/
def Memory.wf (m : Memory) : Bool :=
  decide (m.Pairwise fun a b => a.1 < b.1) && m.all fun a => a.2 != stgDefault

/-- The packer registers and the staging buffer a pack writes. -/
structure Packing where
  regs : Packer
  stg : Memory
  deriving DecidableEq, Repr

/-- `BYTEOFS <- o mod 4; WORD_ACC <- 0xFFFFFFFF; CHKSUM <- CHKS_INIT; NWORDS <- 0` (R133). -/
def packStart (seed o : Word) : Packer := ⟨0xFFFFFFFF, o.extractLsb' 0 2, seed, 0⟩

/-- Lane `ofs` of `acc` takes the byte; the other lanes stay (R133). -/
def laneIn (acc : Word) (ofs : BitVec 2) (b : Byte) : Word :=
  acc &&& ((b.setWidth 32 <<< (8 * ofs.toNat)) ||| ~~~((0xFF : Word) <<< (8 * ofs.toNat)))

/-- A completed word is emitted to `STG[2 + NWORDS]` and folded into `CHKSUM` (R133). -/
def packEmit (size : Nat) (p : Packing) (w : Word) : Packing where
  regs := { p.regs with wordAcc := w, chkSum := p.regs.chkSum ^^^ w, nWords := p.regs.nWords + 1 }
  stg := p.stg.write size (2 + p.regs.nWords.toNat) w

/-- One payload byte (R133). -/
def packByte (size : Nat) (p : Packing) (b : Byte) : Packing :=
  let w := laneIn p.regs.wordAcc p.regs.byteOfs b
  if p.regs.byteOfs = 3 then
    let q := packEmit size p w
    { q with regs := { q.regs with wordAcc := 0xFFFFFFFF, byteOfs := 0 } }
  else { p with regs := { p.regs with wordAcc := w, byteOfs := p.regs.byteOfs + 1 } }

/-- The final partial word, if the chunk ends mid-word (R133, R136); nothing for an empty payload (R137). -/
def packFinish (size n : Nat) (p : Packing) : Packing :=
  if n ≠ 0 ∧ p.regs.byteOfs ≠ 0 then packEmit size p p.regs.wordAcc else p

/-- The whole of PACK in sequential form (R133), into a staging buffer of `size` words. -/
def packRun (size : Nat) (seed : Word) (stg : Memory) (payload : List Byte) (o : Word) : Packing :=
  packFinish size payload.length (payload.foldl (packByte size) ⟨packStart seed o, stg⟩)

/-- The words of one `flash-block` packet (30_encoding.md R98, 44_write.md R205). -/
def flashPacket (p : Params) (runlen offset : Word) (data : List Word) (checksum : Word) : List Word :=
  flashWord0 p runlen :: offset :: (data ++ [checksum])

end Sys2Proof.Machine
end

