-- ==== Sys2Proof/Machine/Ops.lean ====
section
/-! DEFINITION. The named operations over the registers: acceptance, the error entry (this block's exception entry) and
the successful end, the bank's two writes, the start of a command cycle, and reset. -/

namespace Sys2Proof.Machine

variable {τ : Type}

/-- An interface event happens (00_scope.md R15). -/
def Block.State.log (e : Block.Event τ) (s : Block.State τ) : Block.State τ := { s with trace := s.trace ++ [e] }

/-- `ERR_KIND <- code of E`, "and the information fields of rule R220 for that kind"; the registers the kind does not
define are not written (60_exceptions.md R236 step 3): that they keep what they held, where 10_state.md R45 to R47 leave them
unspecified, is DESIGN CHOICE (log entry 6). `at'` is the failing chunk's offset, if there is one (step 2). -/
def Block.ErrRegs.record (e : Block.ErrInfo τ) (at' : Option Word) (r : Block.ErrRegs τ) : Block.ErrRegs τ where
  kind := e.kind
  tag := match e with
    | .protocolFailure t _ => t
    | _ => r.tag
  raw := match e with
    | .protocolFailure _ w => w
    | _ => r.raw
  transport := match e with
    | .transportError x => x
    | _ => r.transport
  failOffset := at'.getD r.failOffset
  failValid := at'.isSome

/-- The Bank Model and the Device Buffer Descriptor are rewritten in one step (10_state.md R33), and the staging buffer is
sized from the new `BUF_LEN` (R41). -/
def Block.State.setBank (b : Bank) (s : Block.State τ) : Block.State τ := { s with bank := b, stg := s.stg.fit b.stgWords }

/-- TAKING AN ERROR: `raise E(info)`, the error entry of 60_exceptions.md R236, in its order. `inCycle` says that the
raise is inside a command cycle. (1) In a PROBE the bank is cleared (42_probe.md R181; `BankInvalid` is raised inside
PROBE only). (2) Inside WRITE's loop, whose only raises are its cycles', `FAIL_OFFSET <- CUR_OFFSET`. (3) The error
registers. (4) `PSTATE <- FAILED` in a cycle, else kept. (5) `OP <- NONE`. (6) The result, if there is an operation to
end. No interface call is made. -/
def raiseError (inCycle : Bool) (e : Block.ErrInfo τ) (s : Block.State τ) : Block.State τ :=
  let at' := if inCycle = true ∧ s.op = .write then some s.xfer.curOffset else none
  { s with
    bank := if s.op = .probe ∨ e.kind = .bankInvalid then (s.setBank Bank.unprobed).bank else s.bank
    stg := if s.op = .probe ∨ e.kind = .bankInvalid then (s.setBank Bank.unprobed).stg else s.stg
    err := s.err.record e at'
    pstate := if inCycle then .failed else s.pstate
    op := .none
    whole := false
    phase := .idle
    results := if s.op = .none then s.results else s.results ++ [.err e at'] }

/-- `return OK`: `OP <- NONE`, `ERR_KIND <- NONE`, the result (42_probe.md R180, 44_write.md R208, 10_state.md R44). A
bare part delivers no result: there is no operation to end (log entry 8). -/
def finishOk (s : Block.State τ) : Block.State τ :=
  { s with
    op := .none
    whole := false
    phase := .idle
    err := { s.err with kind := .none }
    results := if s.op = .none then s.results else s.results ++ [.ok] }

/-- Acceptance of a host operation (30_encoding.md R91): the kind and the arguments are latched, `ERR_KIND <- NONE`,
`PSTATE <- IDLE`. DESIGN CHOICE (log entry 21): every working register keeps what an earlier operation left in it, where
10_state.md R23 gives it no defined value until a rule of this operation writes it. -/
def accept (kind : OpKind) (args : Args) (s : Block.State τ) : Block.State τ :=
  { s with op := kind, args := args, err := { s.err with kind := .none }, pstate := .idle, whole := true }

/-- The head of CYCLE for the first `n` words of `STG`: `PSTATE` is `IDLE`, `TAG <- tag`, and the send comes next
(41_protocol_cycle.md R151). -/
def beginCycle (tag : Tag) (n : Nat) (s : Block.State τ) : Block.State τ :=
  { s with pstate := .idle, tag := tag, phase := .send n }

/-- `STG[0 ..] <- packet; PSTATE <- IDLE; CYCLE(STG[0 .. n-1], tag)` (42_probe.md R170, 43_erase.md R190). -/
def startCommand (tag : Tag) (packet : List Word) (s : Block.State τ) : Block.State τ :=
  beginCycle tag packet.length { s with stg := s.stg.writeAll s.bank.stgWords 0 packet }

/-- The command of an ERASE: `erase-all` for the whole bank, `erase-block` with the operands verbatim otherwise
(43_erase.md R193, R194). -/
def startErase (s : Block.State τ) : Block.State τ :=
  if s.bank.spans s.args.first s.args.last then startCommand .eraseAll [s.cfg.opcEraseAll] s
  else startCommand .eraseBlock [s.cfg.opcEraseBlock, s.args.first, s.args.last] s

/-- `CUR_OFFSET <- byte_offset; REMAINING <- L; PAY_POS <- 0`, then the loop (44_write.md R202). -/
def startWrite (s : Block.State τ) : Block.State τ :=
  { s with
    xfer := { s.xfer with
      curOffset := s.args.offset
      remaining := BitVec.ofNat 32 s.args.payload.length
      payPos := 0 }
    phase := .chunk }

/-- The payload bytes of the next chunk (44_write.md R200). -/
def chunkBytes (s : Block.State τ) (runLen : Word) : List Byte :=
  (s.args.payload.drop s.xfer.payPos.toNat).take runLen.toNat

/-- The body of WRITE's loop up to its cycle (44_write.md R203 to R205): `RUNLEN`, PACK, the two header words, the
checksum word, then the cycle. -/
def buildChunk (s : Block.State τ) : Block.State τ :=
  let runLen := s.bank.chunkLen s.xfer.curOffset s.xfer.remaining
  let size := s.bank.stgWords
  let pk := packRun size s.cfg.chksInit s.stg (chunkBytes s runLen) (s.bank.chunkLane s.xfer.curOffset)
  let n := pk.regs.nWords.toNat
  beginCycle .flashBlock (n + 3)
    { s with
      xfer := { s.xfer with runLen := runLen }
      packer := pk.regs
      stg := ((pk.stg.write size 0 (flashWord0 s.cfg runLen)).write size 1 s.xfer.curOffset).write size (n + 2)
        pk.regs.chkSum }

/-- The head of WRITE's loop: `while REMAINING != 0`, and `return OK` after it (44_write.md R200, R208). -/
def nextChunk (s : Block.State τ) : Block.State τ := if s.xfer.remaining = 0 then finishOk s else buildChunk s

/-- The advance after an acknowledged chunk (44_write.md R208). -/
def advance (s : Block.State τ) : Block.State τ :=
  { s with
    xfer := { s.xfer with
      curOffset := s.xfer.curOffset + s.xfer.runLen
      payPos := s.xfer.payPos + s.xfer.runLen
      remaining := s.xfer.remaining - s.xfer.runLen }
    phase := .chunk }

/-- The drain begins (42_probe.md R171). -/
def startDrain (s : Block.State τ) : Block.State τ := { s with drained := 0, phase := .drainPoll }

/-- The geometry read begins (42_probe.md R175). `PSTATE` keeps its value, `DONE` within a PROBE, as R175 and
60_exceptions.md R236 (4) say, and no transition leads from `DONE` to `AWAITING_ACK` (41_protocol_cycle.md R150). That the block
is in `AWAITING_ACK` while the bit does not assert (20_memory.md R68) is `waitState` (log entry 19). -/
def startGeomRead (s : Block.State τ) : Block.State τ := { s with gidx := 0, phase := .geomWait }

/-- The drain has ended: PROBE goes on to its command (42_probe.md R170), a bare drain ends. -/
def afterDrain (s : Block.State τ) : Block.State τ :=
  if s.whole then startCommand .probe [s.cfg.opcProbe] s else { s with phase := .idle }

/-- A command cycle has ended in `DONE` (41_protocol_cycle.md R157): PROBE reads the geometry, ERASE ends, WRITE goes on
to its next chunk, a bare cycle ends. -/
def afterCycle (s : Block.State τ) : Block.State τ :=
  if s.whole then
    match s.op with
    | .none => { s with phase := .idle }
    | .probe => startGeomRead s
    | .erase => finishOk s
    | .write => advance s
  else { s with phase := .idle }

/-- The geometry read has ended: PROBE validates, a bare geometry read ends (42_probe.md R170). -/
def afterGeomRead (s : Block.State τ) : Block.State τ := { s with phase := if s.whole then .geomCheck else .idle }

/-- VALIDATE and COMMIT (42_probe.md R178, R180): the bank is written in one step, or `BankInvalid` is raised. -/
def checkGeometry (s : Block.State τ) : Block.State τ :=
  if s.geom.decode.valid s.cfg then finishOk (s.setBank s.geom.decode)
  else raiseError false .bankInvalid s

/-- DECODE (41_protocol_cycle.md R156): the response word against the sentinel, on all 32 bits. -/
def checkResponse (s : Block.State τ) : Block.State τ :=
  if s.resp = s.cfg.rspDone then afterCycle { s with pstate := .done }
  else raiseError true (.protocolFailure s.tag s.resp) s

/-- Reset (70_reset_and_hazards.md R262, R260): the block is in its reset state, whatever it was doing, with no result;
the environment, the caller's list and the parameters stay as they are, and the reset input has been taken. -/
def Block.State.resetNow [Inhabited τ] (s : Block.State τ) : Block.State τ :=
  { Block.State.initial with
    cfg := s.cfg
    replies := s.replies
    trace := s.trace
    results := s.results
    calls := s.calls }

end Sys2Proof.Machine
end

