-- ==== Sys2Proof/Machine/Engine.lean ====
section
/-! DEFINITION. The engine at the grain of 00_scope.md R4: one tick is one call of an interface primitive that the
environment answers, or one internal computation. `runOn` takes ticks until the block is idle or waits for an answer. -/

namespace Sys2Proof.Machine

variable {τ : Type}

/-- `TGT.is_running()` returned (20_memory.md R70; 43_erase.md R192, 44_write.md R201). -/
def answerRun (r : Block.Reply τ) (s : Block.State τ) : Block.State τ :=
  let t := s.log (.run r.good)
  if r.good then
    match s.op with
    | .erase => startErase t
    | .write => startWrite t
    | .none => { t with phase := .idle }
    | .probe => { t with phase := .idle }
  else raiseError false .targetNotRunning t

/-- The drain has discarded as many words as `DRAIN_LIMIT` admits (42_probe.md R171, D12). -/
def drainExceeded (s : Block.State τ) : Bool :=
  match s.cfg.drainLimit with
  | none => false
  | some m => decide (m ≤ s.drained)

/-- `TP.rx_pending()` returned (42_probe.md R171): a waiting word is taken next, unless that exceeds `DRAIN_LIMIT`,
"exceeding it is then a TransportError" (whose content is a free value, log entry 7); none ends the drain. -/
def answerPoll [Inhabited τ] (r : Block.Reply τ) (s : Block.State τ) : Block.State τ :=
  let t := s.log (.rxp r.good)
  if r.good then
    if drainExceeded s then raiseError false (.transportError (Config.drainLimitError s.trace.length)) t
    else { t with phase := .drainTake }
  else afterDrain t

/-- `TP.receive(1)` of the drain returned (42_probe.md R171): the word is discarded. -/
def answerDrain (r : Block.Reply τ) (s : Block.State τ) : Block.State τ :=
  if r.good then { s.log (.recv (.word r.word)) with drained := s.drained + 1, phase := .drainPoll }
  else raiseError false (.transportError r.err) (s.log (.recv (.err r.err)))

/-- `TP.send` of the first `n` words of `STG` returned (41_protocol_cycle.md R152, R153; transitions 1 and 2). -/
def answerSend (n : Nat) (r : Block.Reply τ) (s : Block.State τ) : Block.State τ :=
  if r.good then { s.log (.send (s.stg.words 0 n) none) with pstate := .cmdSent, phase := .sent }
  else raiseError true (.transportError r.err) (s.log (.send (s.stg.words 0 n) (some r.err)))

/-- The engine calls the handshake (41_protocol_cycle.md R154; transition 3). -/
def callHandshake (s : Block.State τ) : Block.State τ := { s with pstate := .awaitingAck, phase := .ackWait }

/-- `TP.handshake(1000)` returned (41_protocol_cycle.md R154; transition 4, and the first half of 5 and 6). -/
def answerAck (r : Block.Reply τ) (s : Block.State τ) : Block.State τ :=
  let t := s.log (.hs ackTimeoutMs r.good)
  if r.good then { t with phase := .respRead } else raiseError true .transportTimeout t

/-- `TP.receive(1)` of the response returned (41_protocol_cycle.md R155; transitions 5 and 6). -/
def answerResponse (r : Block.Reply τ) (s : Block.State τ) : Block.State τ :=
  if r.good then
    { s.log (.recv (.word r.word)) with resp := r.word, pstate := .responseReceived, phase := .respCheck }
  else raiseError true (.transportError r.err) (s.log (.recv (.err r.err)))

/-- `TP.handshake(GEOM_TIMEOUT_MS)` (42_probe.md R175): acknowledged, or timed out where the timeout is not 0. With 0
"it returns only `ack`" (20_memory.md R68): an answer that is no ack leaves the block waiting, for ever if none comes
(93_implementation_defined.md U9). -/
def answerGeomAck (r : Block.Reply τ) (s : Block.State τ) : Block.State τ :=
  if r.good then { s.log (.hs s.cfg.geomTimeoutMs true) with phase := .geomRead }
  else if s.cfg.geomTimeoutMs = 0 then s
  else raiseError false .transportTimeout (s.log (.hs s.cfg.geomTimeoutMs false))

/-- `TP.receive(1)` of geometry word `GIDX` returned (42_probe.md R175): `G[GIDX] <- w`, and `GIDX` counts it. -/
def answerGeomWord (r : Block.Reply τ) (s : Block.State τ) : Block.State τ :=
  if r.good then
    let t := { s.log (.recv (.word r.word)) with geom := s.geom.set s.gidx r.word, gidx := s.gidx + 1 }
    if s.gidx = 3 then afterGeomRead t else { t with phase := .geomWait }
  else raiseError false (.transportError r.err) (s.log (.recv (.err r.err)))

/-- The call the block is waiting in returns with `r`; nothing to do where the phase is no call. -/
def answer [Inhabited τ] (r : Block.Reply τ) (s : Block.State τ) : Block.State τ :=
  match s.phase with
  | .idle => s
  | .runCheck => answerRun r s
  | .drainPoll => answerPoll r s
  | .drainTake => answerDrain r s
  | .send n => answerSend n r s
  | .sent => s
  | .ackWait => answerAck r s
  | .respRead => answerResponse r s
  | .respCheck => s
  | .geomWait => answerGeomAck r s
  | .geomRead => answerGeomWord r s
  | .geomCheck => s
  | .chunk => s

/-- The block is at an internal computation (00_scope.md R4). -/
def Phase.internal : Phase → Bool
  | .sent => true
  | .respCheck => true
  | .geomCheck => true
  | .chunk => true
  | .idle => false
  | .runCheck => false
  | .drainPoll => false
  | .drainTake => false
  | .send _ => false
  | .ackWait => false
  | .respRead => false
  | .geomWait => false
  | .geomRead => false

/-- The internal computation the block is at. -/
def compute (s : Block.State τ) : Block.State τ :=
  match s.phase with
  | .sent => callHandshake s
  | .respCheck => checkResponse s
  | .geomCheck => checkGeometry s
  | .chunk => nextChunk s
  | .idle => s
  | .runCheck => s
  | .drainPoll => s
  | .drainTake => s
  | .send _ => s
  | .ackWait => s
  | .respRead => s
  | .geomWait => s
  | .geomRead => s

/-- One tick: the internal computation, or the call answered by the environment's next reply; none when the block is
idle, or waits in a call that the environment has not answered (00_scope.md R4; log entry 12). -/
def tick [Inhabited τ] (s : Block.State τ) : Option (Block.State τ) :=
  if s.phase.internal then some (compute s)
  else if s.phase = .idle then none
  else
    match s.replies with
    | [] => none
    | r :: rs => some (answer r { s with replies := rs })

/-- At most `n` ticks. -/
def runFor [Inhabited τ] : Nat → Block.State τ → Block.State τ
  | 0, s => s
  | n + 1, s =>
    match tick s with
    | none => s
    | some t => runFor n t

/-- Enough ticks for every reply: at most two internal computations follow one another, so a reply costs three. -/
def tickBudget (s : Block.State τ) : Nat := 3 * s.replies.length + 2

/-- The block runs until it is idle or waits in a call without an answer (20_memory.md R81, R83). -/
def runOn [Inhabited τ] (s : Block.State τ) : Block.State τ := runFor (tickBudget s) s

/-- The block is inside `TP.receive(1)` (41_protocol_cycle.md R155, 42_probe.md R171, R175). -/
def Phase.receiving : Phase → Bool
  | .drainTake => true
  | .respRead => true
  | .geomRead => true
  | .idle => false
  | .runCheck => false
  | .drainPoll => false
  | .send _ => false
  | .sent => false
  | .ackWait => false
  | .respCheck => false
  | .geomWait => false
  | .geomCheck => false
  | .chunk => false

/-- An instruction is started if nothing is in flight, and refused otherwise (30_encoding.md R91, U3). It starts as a
bare part; acceptance makes it a whole operation. The working registers keep what they held (DESIGN CHOICE, log entry 21). -/
def launch [Inhabited τ] (start : Block.State τ → Block.State τ) (s : Block.State τ) : Host.Outcome (Block.State τ) Fault Refusal :=
  if s.engaged then .refused .operationInProgress else .next (runOn (start { s with whole := false }))

/-- A packet given as an operand is sent only if the block can emit it (30_encoding.md R108, 41_protocol_cycle.md R151). -/
def launchIf [Inhabited τ] (emits : Bool) (start : Block.State τ → Block.State τ) (s : Block.State τ) : Host.Outcome (Block.State τ) Fault Refusal :=
  if s.engaged = false ∧ emits = false then .refused .illFormed else launch start s

end Sys2Proof.Machine
end

