-- ==== Sys2Proof/Machine/HostOps.lean ====
section
/-! DEFINITION. The meanings of the host operations: acceptance (30_encoding.md R91), then the operation's procedure until
it ends or waits for the environment. -/

namespace Sys2Proof.Machine

variable {τ : Type}

/-- `PROBE` (42_probe.md R170): no precondition (R172), the drain first. -/
def beginProbe (s : Block.State τ) : Block.State τ := startDrain (accept .probe Args.empty s)

/-- `ERASE first, last` (43_erase.md R190): the probed check (R191), then the running check (R192). -/
def beginErase (first last : Word) (s : Block.State τ) : Block.State τ :=
  let t := accept .erase ⟨first, last, 0, []⟩ s
  if t.probed then { t with phase := .runCheck } else raiseError false .bankNotProbed t

/-- `WRITE offset, payload` (44_write.md R200): the probed check, then the running check (R201). -/
def beginWrite (offset : Word) (payload : List Byte) (s : Block.State τ) : Block.State τ :=
  let t := accept .write ⟨0, 0, offset, payload⟩ s
  if t.probed then { t with phase := .runCheck } else raiseError false .bankNotProbed t

/-- `PROBE` (42_probe.md R170). -/
def execHostProbe [Inhabited τ] (s : Block.State τ) : Host.Outcome (Block.State τ) Fault Refusal := launch beginProbe s

/-- `ERASE` (43_erase.md R190). -/
def execHostErase [Inhabited τ] (first last : Word) (s : Block.State τ) : Host.Outcome (Block.State τ) Fault Refusal :=
  launch (beginErase first last) s

/-- `WRITE` (44_write.md R200). A payload no u32 counts, or above `MAX_PAYLOAD`, is no request the block can hold
(20_memory.md R61, 92_eei_decisions.md D4). -/
def execHostWrite [Inhabited τ] (offset : Word) (payload : List Byte) (s : Block.State τ) : Host.Outcome (Block.State τ) Fault Refusal :=
  if s.engaged = false ∧ payloadTooLong s.cfg payload = true then .refused .payloadTooLong
  else launch (beginWrite offset payload) s

end Sys2Proof.Machine
end

