-- ==== Sys2Proof/Machine/Internal.lean ====
section
/-! DEFINITION. The meanings of the internal operations, each run as a bare part: outside a host operation it ends where
its own procedure ends (log entry 8). -/

namespace Sys2Proof.Machine

variable {τ : Type}

/-- `PACK` (40_block_packer.md R130 to R133): the packer registers, `STG[2 ..]` as far as there are words, and the words
returned, whole; no interface is touched. "Errors raised: none, for every (B, o)" (R131). -/
def applyPack (payload : List Byte) (o : Word) (s : Block.State τ) : Block.State τ :=
  let pk := packRun s.bank.stgWords s.cfg.chksInit s.stg payload o
  { s with packer := pk.regs, stg := pk.stg, packed := packWords payload o }

/-- `PACK` (40_block_packer.md R130). -/
def execPack [Inhabited τ] (payload : List Byte) (o : Word) (s : Block.State τ) : Host.Outcome (Block.State τ) Fault Refusal :=
  launch (applyPack payload o) s

/-- `CYCLE` (41_protocol_cycle.md R151), for a packet in one of the four formats. R151 takes the packet as already built in
`STG`; run alone, CYCLE is given it as an operand, and the model writes it into `STG[0 ..]` first and sends it from there
(DESIGN CHOICE, log entry 8). A packet in none of the formats, such as a flash-block whose checksum or filler is not R98's, has no
effect in the spec and is refused (DESIGN CHOICE, log entry 18). Outside `IDLE` there is no transition (R150, R151). -/
def execCycle [Inhabited τ] (tag : Tag) (packet : List Word) (s : Block.State τ) : Host.Outcome (Block.State τ) Fault Refusal :=
  if s.pstate = .idle ∨ s.engaged = true then
    launchIf (isPacketOf s.cfg s.bank.bufLen s.bank.bufAlign tag packet) (startCommand tag packet) s
  else .fault .noTransition

/-- `DRAIN` (42_probe.md R171). -/
def execDrain [Inhabited τ] (s : Block.State τ) : Host.Outcome (Block.State τ) Fault Refusal := launch startDrain s

/-- `GEOMREAD` (42_probe.md R175). -/
def execGeomRead [Inhabited τ] (s : Block.State τ) : Host.Outcome (Block.State τ) Fault Refusal := launch startGeomRead s

end Sys2Proof.Machine
end

