-- ==== Sys2Proof/Machine/Wire.lean ====
section
/-! DEFINITION. The meanings of the wire commands and responses. A command puts its packet into `STG` and runs one
command cycle with its tag; a response is what the environment's answer to the block's reads is. -/

namespace Sys2Proof.Machine

variable {τ : Type}

/-- `probe` (30_encoding.md R95, 42_probe.md R173). -/
def execWireProbe [Inhabited τ] (s : Block.State τ) : Host.Outcome (Block.State τ) Fault Refusal :=
  launch (startCommand .probe [s.cfg.opcProbe]) s

/-- `erase-all` (30_encoding.md R96, 43_erase.md R193). -/
def execWireEraseAll [Inhabited τ] (s : Block.State τ) : Host.Outcome (Block.State τ) Fault Refusal :=
  launch (startCommand .eraseAll [s.cfg.opcEraseAll]) s

/-- `erase-block` (30_encoding.md R97, 43_erase.md R194): the operands go out verbatim. -/
def execWireEraseBlock [Inhabited τ] (first last : Word) (s : Block.State τ) : Host.Outcome (Block.State τ) Fault Refusal :=
  launch (startCommand .eraseBlock [s.cfg.opcEraseBlock, first, last]) s

/-- `flash-block` (30_encoding.md R98, 44_write.md R205), for the packets the block can emit (R108); any other, one whose checksum
or filler is not R98's among them, is refused (DESIGN CHOICE, log entry 18). -/
def execWireFlashBlock [Inhabited τ] (runlen : BitVec 16) (offset : Word) (data : List Word) (checksum : Word) (s : Block.State τ) :
    Host.Outcome (Block.State τ) Fault Refusal :=
  launchIf (flashLegal s.cfg s.bank.bufLen s.bank.bufAlign runlen offset data checksum)
    (startCommand .flashBlock (flashPacket s.cfg (zext32 runlen) offset data checksum)) s

/-- A word comes from the loader: the receive the block is inside returns it, whichever that is ("a stale word", R268 of
70_reset_and_hazards.md, can come at any of them); elsewhere the block does not see it (log entry 13). -/
def takeWord [Inhabited τ] (w : Word) (s : Block.State τ) : Block.State τ := if s.phase.receiving then answer ⟨true, w, default⟩ s else s

/-- One geometry word comes: where the block awaits its handshake, that is acknowledged first (42_probe.md R175). -/
def takeGeomWord [Inhabited τ] (g : Word) (s : Block.State τ) : Block.State τ :=
  takeWord g (if s.phase = .geomWait then answer ⟨true, 0, default⟩ s else s)

/-- The next geometry word comes: it is taken while the geometry read goes on (42_probe.md R175); after it, the word stays
with the environment. -/
def nextGeomWord [Inhabited τ] (g : Word) (s : Block.State τ) : Block.State τ := if s.phase = .geomWait then takeGeomWord g s else s

/-- A response word comes (30_encoding.md R103): read and decoded where the block reads its response (41_protocol_cycle.md
R155, R156), discarded where it drains (42_probe.md R171), the next geometry word where it reads one (R175), and the block
runs on. Where it is inside no receive, the block does not see the word: it stays in the receive path, the environment's, as a
stale word (10_state.md R50, 41_protocol_cycle.md R154; log entry 13). -/
def execRespDone [Inhabited τ] (code : Word) (s : Block.State τ) : Host.Outcome (Block.State τ) Fault Refusal :=
  if s.phase.receiving then .next (runOn (takeWord code s)) else .next s

/-- The four geometry words come (30_encoding.md R104): where the block is in its geometry read, each is read after its own
handshake (42_probe.md R175) while the read goes on, and the set is then decoded and validated (R176 to R180). Inside
another receive the first word is what that returns. The words the block does not take stay with the environment, all four
where it is in neither (log entry 13). -/
def execRespGeometry [Inhabited τ] (g0 g1 g2 g3 : Word) (s : Block.State τ) : Host.Outcome (Block.State τ) Fault Refusal :=
  if s.phase = .geomWait ∨ s.phase.receiving = true then
    .next (runOn (nextGeomWord g3 (nextGeomWord g2 (nextGeomWord g1 (takeGeomWord g0 s)))))
  else .next s

end Sys2Proof.Machine
end

