-- ==== Sys2Proof/Machine/Dispatch.lean ====
section
/-! DEFINITION. One arm per instruction. -/

namespace Sys2Proof.Machine

def exec (i : Instr) (s : State) : Host.Outcome State Fault Refusal :=
  match i with
  | .wireProbe => Sys2Proof.Machine.execWireProbe s
  | .wireEraseAll => Sys2Proof.Machine.execWireEraseAll s
  | .wireEraseBlock first last => Sys2Proof.Machine.execWireEraseBlock first last s
  | .wireFlashBlock runlen offset data checksum => Sys2Proof.Machine.execWireFlashBlock runlen offset data checksum s
  | .respDone code => Sys2Proof.Machine.execRespDone code s
  | .respGeometry g0 g1 g2 g3 => Sys2Proof.Machine.execRespGeometry g0 g1 g2 g3 s
  | .hostProbe => Sys2Proof.Machine.execHostProbe s
  | .hostErase first last => Sys2Proof.Machine.execHostErase first last s
  | .hostWrite offset payload => Sys2Proof.Machine.execHostWrite offset payload s
  | .pack payload o => Sys2Proof.Machine.execPack payload o s
  | .cycle tag packet => Sys2Proof.Machine.execCycle tag packet s
  | .drain => Sys2Proof.Machine.execDrain s
  | .geomRead => Sys2Proof.Machine.execGeomRead s

end Sys2Proof.Machine
end

