-- ==== Sys2Proof/Machine/Fetch.lean ====
section
/-! DEFINITION. Where the next instruction comes from. The block has no program counter (10_state.md R22): nothing in
flight, it takes the caller's next submission; reading a response, it takes the word the receive path delivers;
otherwise it goes on with what is in flight. -/

namespace Sys2Proof.Machine

variable {τ : Type}

/-- What a step does. -/
inductive Fetched (τ : Type) where
  /-- Nothing to do: the block waits (70_reset_and_hazards.md R261). -/
  | wait
  /-- What is in flight goes on. -/
  | resume
  /-- This instruction, from the state without its source. -/
  | run (i : Instr) (s : Block.State τ)
  /-- Words that are no packet. -/
  | reject (e : DecodeError)
  deriving DecidableEq, Repr

/-- The next submission, if nothing is in flight (00_scope.md R17, 30_encoding.md R91). DESIGN CHOICE (log entry 20): a
submission becomes a request here, when it is fetched. One that the caller puts into `calls` while another operation is in flight
is not refused then; it waits in the list and is fetched once the block is idle. -/
def fetchCall (s : Block.State τ) : Fetched τ :=
  match s.calls with
  | [] => .wait
  | .host h :: rest => .run h.instr { s with calls := rest }
  | .part i :: rest => .run i { s with calls := rest }
  | .packet ws :: rest =>
    match decodePacket s.cfg s.bank.bufAlign ws with
    | .ok (i, _) => .run i { s with calls := rest }
    | .error e => .reject e

/-- The response word waiting in the receive path, if the block is reading one (41_protocol_cycle.md R155). -/
def fetchResponse (s : Block.State τ) : Fetched τ :=
  match s.replies with
  | [] => .wait
  | r :: rest => if r.good then .run (.respDone r.word) { s with replies := rest } else .resume

/-- What the step does next. -/
def fetch (s : Block.State τ) : Fetched τ :=
  if s.phase = .idle then fetchCall s else if s.phase = .respRead then fetchResponse s else .resume

end Sys2Proof.Machine
end

