-- ==== Sys2Proof/Machine/Step.lean ====
section
/-! DEFINITION. One step of the machine, and how the host places an instruction (log entry 14). -/

namespace Sys2Proof.Machine

/-- One step: reset if it is asked for (70_reset_and_hazards.md R262), else the instruction that is fetched, else what is
in flight goes on, else the block waits. -/
def step (s : State) : Host.Outcome State Fault Refusal :=
  if s.resetLine then .next s.resetNow
  else
    match fetch s with
    | .wait => .next s
    | .resume => .next (runOn s)
    | .run i t => if i.wf t.cfg t.bank.bufLen t.bank.bufAlign then exec i t else .refused .illFormed
    | .reject e => .refused (.undecodable e)

/-- A probed bank for a flash-block placed from outside: the largest legal buffer (10_state.md R28), and the alignment 1 by
which `tableWords` lays the packet out. No flash-block is legal on an unprobed block (log entries 14, 18). -/
def fetchBank : Bank := ⟨0, 0, 1, 0xFFFC, 1⟩

/-- `s` with the table word's instruction where `step` fetches next: a response word in the receive path of a block that
is reading one, any other packet as the next submission of a block with nothing in flight, probed for a flash-block. -/
def State.withFetchWord (s : State) (nbits w : Nat) : State :=
  match decodeTableWord nbits w with
  | some (.respDone code) =>
    { s with
      resetLine := false
      pstate := .awaitingAck
      phase := .respRead
      replies := ⟨true, code, default⟩ :: s.replies }
  | some (.wireFlashBlock _ _ _ _) =>
    { s.setBank fetchBank with
      resetLine := false
      op := .none
      whole := false
      phase := .idle
      calls := .packet (tableWords nbits w) :: s.calls }
  | _ =>
    { s with
      resetLine := false
      op := .none
      whole := false
      phase := .idle
      calls := .packet (tableWords nbits w) :: s.calls }

end Sys2Proof.Machine
end

