-- ==== Sys2Proof/Machine/Accessors.lean ====
section
/-! DEFINITION. The read-only accessors (10_state.md R35): no side effect, and a FREE VALUE where the spec leaves the
read open: a register the operation in progress may write (93_implementation_defined.md U4), an error register the last
error does not define (U5). -/

namespace Sys2Proof.Machine

variable {τ : Type}

/-- What the caller can read (10_state.md R35, 92_eei_decisions.md D10). -/
inductive Accessor where
  | baseAddr | totalSize | sectCount
  | sect (i : Nat)
  | bufLen | bufAlign | probed
  | errKind | errTag | errRaw | errTransport | failOffset
  deriving DecidableEq, Repr

/-- What an accessor returns. -/
inductive Access (τ : Type) where
  | word (w : Word)
  | flag (b : Bool)
  | sector (r : Option Sector)
  | tag (t : Tag)
  | kind (k : ErrKind)
  | transport (e : TransportErr τ)
  deriving DecidableEq, Repr

/-- The accessor reads the Bank Model (and not an error register). -/
def Accessor.ofBank : Accessor → Bool
  | .baseAddr => true
  | .totalSize => true
  | .sectCount => true
  | .sect _ => true
  | .bufLen => true
  | .bufAlign => true
  | .probed => true
  | .errKind => false
  | .errTag => false
  | .errRaw => false
  | .errTransport => false
  | .failOffset => false

/-- The registers an operation may write (10_state.md R33, 43_erase.md R190, 44_write.md R200): the bank in a PROBE only,
`FAIL_OFFSET` in a WRITE only, the other error registers in each. -/
def mayWrite (op : OpKind) (a : Accessor) : Bool :=
  match op with
  | .none => false
  | .probe => a != .failOffset
  | .erase => !a.ofBank && a != .failOffset
  | .write => !a.ofBank

/-- The last error defines the register (10_state.md R45 to R47). -/
def defines (r : Block.ErrRegs τ) (a : Accessor) : Bool :=
  match a with
  | .errTag => r.kind == .protocolFailure
  | .errRaw => r.kind == .protocolFailure
  | .errTransport => r.kind == .transportError
  | .failOffset => r.failValid && r.kind != .none
  | .errKind => true
  | .baseAddr => true
  | .totalSize => true
  | .sectCount => true
  | .sect _ => true
  | .bufLen => true
  | .bufAlign => true
  | .probed => true

/-- The register's content. -/
def content (s : Block.State τ) : Accessor → Access τ
  | .baseAddr => .word s.bank.baseAddr
  | .totalSize => .word s.bank.totalSize
  | .sectCount => .word s.bank.sectCount
  | .sect i => .sector (s.sect i)
  | .bufLen => .word s.bank.bufLen
  | .bufAlign => .word s.bank.bufAlign
  | .probed => .flag s.probed
  | .errKind => .kind s.err.kind
  | .errTag => .tag s.err.tag
  | .errRaw => .word s.err.raw
  | .errTransport => .transport s.err.transport
  | .failOffset => .word s.err.failOffset

/-- A FREE VALUE of the register's type, for the n-th read. -/
def freeContent [Inhabited τ] (n : Nat) : Accessor → Access τ
  | .baseAddr => .word (Config.freeWord (2 * n))
  | .totalSize => .word (Config.freeWord (2 * n))
  | .sectCount => .word (Config.freeWord (2 * n))
  | .sect _ =>
    .sector (if Config.freeFlag n then
      some ⟨Config.freeWord (2 * n), Config.freeWord (2 * n + 1), Config.freeTri (2 * n), Config.freeTri (2 * n + 1)⟩
      else none)
  | .bufLen => .word (Config.freeWord (2 * n))
  | .bufAlign => .word (Config.freeWord (2 * n))
  | .probed => .flag (Config.freeFlag n)
  | .errKind => .kind (Config.freeErrKind n)
  | .errTag => .tag (Config.freeTag n)
  | .errRaw => .word (Config.freeWord (2 * n))
  | .errTransport => .transport (Config.freeTransport n)
  | .failOffset => .word (Config.freeWord (2 * n))

/-- An accessor read (10_state.md R35), the reader's n-th: the content, or a free value where it is open. It is a
function of the state, so it has no side effect. -/
def access [Inhabited τ] (n : Nat) (a : Accessor) (s : Block.State τ) : Access τ :=
  if mayWrite s.op a || !defines s.err a then freeContent n a else content s a

end Sys2Proof.Machine
end

