-- ==== Sys2Proof/Machine/Inputs.lean ====
section
/-! DEFINITION. What the outside can do to the machine, between two steps: answer, submit, reset. -/

namespace Sys2Proof.Machine

variable {τ : Type}

/-- The environment answers the calls to come (00_scope.md R17, 20_memory.md R69). -/
def Block.State.answered (rs : List (Block.Reply τ)) (s : Block.State τ) : Block.State τ := { s with replies := s.replies ++ rs }

/-- The caller submits a host operation (30_encoding.md R92). DESIGN CHOICE (log entry 20): it may do so while another is in
flight; the submission then waits in `calls`, and is a request, in the sense of R91 and D17, only when it is fetched. -/
def Block.State.submitted (h : HostOp) (s : Block.State τ) : Block.State τ := { s with calls := s.calls ++ [.host h] }

/-- The reset input is asserted (70_reset_and_hazards.md R262). -/
def Block.State.resetAsserted (s : Block.State τ) : Block.State τ := { s with resetLine := true }

end Sys2Proof.Machine
end

