-- ==== Sys2Proof/Safety.lean ====
section
/-! DEFINITION. What statements call a legal state and a legal run: the bank invariant (10_state.md R32, R33), the
agreement of the sequencing registers with the position in the pseudocode, the progress of a WRITE, the transition table
(41_protocol_cycle.md R150), the order of interface events (20_memory.md R82), TransportErrors of another type (10_state.md R46). -/

namespace Sys2Proof.Machine

variable {τ : Type}

/-- The bank invariant (10_state.md R32, R28, R29): what holds of a probed bank. -/
structure BankSound (b : Bank) : Prop where
  sectors : b.sectCount ≠ 0
  wholeSectors : b.totalSize % b.sectCount = 0
  bufferNonzero : b.bufLen ≠ 0
  bufferWords : b.bufLen % 4 = 0
  bufferBound : b.bufLen ≤ 0xFFFC
  alignNonzero : b.bufAlign ≠ 0
  alignBound : b.bufAlign ≤ b.bufLen
  alignDivides : b.bufLen % b.bufAlign = 0

/-- All or nothing (10_state.md R33): the bank is unprobed and all zero, or sound. -/
def BankOk (b : Bank) : Prop := b = Bank.unprobed ∨ BankSound b

/-- The progress of a WRITE at its chunk boundary (10_state.md R40): `PAY_POS + REMAINING` is the payload's length, and
the bank offset has moved on as far as the payload index. -/
structure Progress (a : Args) (x : Transfer) : Prop where
  length : a.payload.length < 2 ^ 32
  position : x.payPos.toNat + x.remaining.toNat = a.payload.length
  offset : x.curOffset = a.offset + x.payPos

/-- The chunk in flight (44_write.md R203): at least one byte, no more than remain, within the device buffer. -/
structure ChunkSound (b : Bank) (x : Transfer) : Prop where
  nonempty : x.runLen ≠ 0
  remains : x.runLen ≤ x.remaining
  fits : (x.curOffset % b.bufAlign).toNat + x.runLen.toNat ≤ b.bufLen.toNat

/-- Whose command cycle is in flight, and with which tag (10_state.md R36, R38): PROBE's, ERASE's or WRITE's, the last two
on a probed bank only; or a bare one, outside any operation. -/
def CycleOwner (s : Block.State τ) : Prop :=
  (s.whole = false ∧ s.op = .none) ∨
  (s.whole = true ∧ s.op = .probe ∧ s.tag = .probe) ∨
  (s.whole = true ∧ s.op = .erase ∧ s.probed = true ∧ (s.tag = .eraseAll ∨ s.tag = .eraseBlock)) ∨
  (s.whole = true ∧ s.op = .write ∧ s.probed = true ∧ s.tag = .flashBlock ∧
    Progress s.args s.xfer ∧ ChunkSound s.bank s.xfer)

/-- A part of PROBE is in flight: within PROBE, or bare. -/
def ProbePart (s : Block.State τ) : Prop := (s.whole = true ∧ s.op = .probe) ∨ (s.whole = false ∧ s.op = .none)

/-- The sequencing registers agree with the position (10_state.md R22, R36, R37, R39). -/
def PhaseOk (s : Block.State τ) : Prop :=
  match s.phase with
  | .idle => s.op = .none ∧ s.whole = false
  | .runCheck => s.whole = true ∧ (s.op = .erase ∨ s.op = .write) ∧ s.pstate = .idle ∧ s.probed = true ∧
      s.args.payload.length < 2 ^ 32
  | .drainPoll => ProbePart s ∧ (s.whole = true → s.pstate = .idle)
  | .drainTake => ProbePart s ∧ (s.whole = true → s.pstate = .idle)
  | .send _ => CycleOwner s ∧ s.pstate = .idle
  | .sent => CycleOwner s ∧ s.pstate = .cmdSent
  | .ackWait => CycleOwner s ∧ s.pstate = .awaitingAck
  | .respRead => CycleOwner s ∧ s.pstate = .awaitingAck
  | .respCheck => CycleOwner s ∧ s.pstate = .responseReceived
  | .geomWait => ProbePart s ∧ s.gidx < 4 ∧ (s.whole = true → s.pstate = .done)
  | .geomRead => ProbePart s ∧ s.gidx < 4 ∧ (s.whole = true → s.pstate = .done)
  | .geomCheck => s.whole = true ∧ s.op = .probe ∧ s.pstate = .done ∧ s.gidx = 4
  | .chunk => s.whole = true ∧ s.op = .write ∧ s.probed = true ∧ Progress s.args s.xfer ∧
      (s.pstate = .idle ∨ s.pstate = .done)

/-- The packet about to be sent stands whole in `STG` and is one wire command that the block can emit, with the cycle's tag
(41_protocol_cycle.md R151, 30_encoding.md R108, 10_state.md R41). -/
def PacketOk (s : Block.State τ) : Prop :=
  ∀ n, s.phase = .send n → n ≤ s.bank.stgWords ∧
    isPacketOf s.cfg s.bank.bufLen s.bank.bufAlign s.tag (s.stg.words 0 n) = true

/-- The invariant of the machine: legal parameters (00_scope.md R9), a staging buffer in canonical form and of the size R41
gives it, the bank all or nothing, the sequencing registers in agreement, a legal packet wherever one is about to be sent,
and no error kind while an operation is in progress (10_state.md R44). -/
structure Inv (s : Block.State τ) : Prop where
  params : s.cfg.wf
  staging : s.stg.wf = true
  stagingSize : s.stg.within s.bank.stgWords = true
  packet : PacketOk s
  bank : BankOk s.bank
  sequencing : PhaseOk s
  noStaleError : s.op ≠ .none → s.err.kind = .none

/-- The transitions of `PSTATE` inside an operation: the eight of 41_protocol_cycle.md R150, and `DONE -> IDLE`, with which
WRITE starts the cycle of its next chunk (R157). -/
def legalTransition : PState → PState → Bool
  | .idle, .cmdSent => true
  | .idle, .failed => true
  | .cmdSent, .awaitingAck => true
  | .awaitingAck, .failed => true
  | .awaitingAck, .responseReceived => true
  | .responseReceived, .done => true
  | .responseReceived, .failed => true
  | .done, .idle => true
  | _, _ => false

/-- Where one operation stands in the request and response discipline of 20_memory.md R82: it may make its next call and
nothing is outstanding (`free`), a command is sent, its ack is seen, or the operation makes no further interface call
(`closed`; 41_protocol_cycle.md R158). -/
inductive PortState where
  | free | outstanding | acked | closed
  deriving DecidableEq, Repr

/-- The events of a command cycle in their order (41_protocol_cycle.md R159), beside the events that touch no command
(the target query; the drain's poll and receive; the geometry's handshake and receive). Whatever fails closes the operation:
an error or a timeout of a call, a response word that is not the sentinel, a target that does not run. None where the order
is broken: a second packet before the first one's response, a handshake without a command, any event after the ack but the
read of the response, and any event at all after a failure. -/
def portNext (p : Params) : PortState → Block.Event τ → Option PortState
  | .free, .send _ none => some .outstanding
  | .free, .send _ (some _) => some .closed
  | .free, .hs t b => if t = p.geomTimeoutMs then some (if b then .free else .closed) else none
  | .free, .recv (.word _) => some .free
  | .free, .recv (.err _) => some .closed
  | .free, .rxp _ => some .free
  | .free, .run b => some (if b then .free else .closed)
  | .outstanding, .hs t b => if t = ackTimeoutMs then some (if b then .acked else .closed) else none
  | .acked, .recv (.word w) => some (if w = p.rspDone then .free else .closed)
  | .acked, .recv (.err _) => some .closed
  | _, _ => none

/-- The port after a list of events; none where the order is broken. -/
def portAfter (p : Params) : Option PortState → List (Block.Event τ) → Option PortState
  | none, _ => none
  | some q, [] => some q
  | some q, e :: es => portAfter p (portNext p q e) es

/-- Where a state leaves the port: closed when no operation is in flight, and when the response word read is a failure. -/
def Block.State.port (s : Block.State τ) : PortState :=
  match s.phase with
  | .idle => .closed
  | .sent => .outstanding
  | .ackWait => .outstanding
  | .respRead => .acked
  | .respCheck => if s.resp = s.cfg.rspDone then .free else .closed
  | .runCheck => .free
  | .drainPoll => .free
  | .drainTake => .free
  | .send _ => .free
  | .geomWait => .free
  | .geomRead => .free
  | .geomCheck => .free
  | .chunk => .free

/-- Where the port stands when a step begins: an idle block may start the next operation. -/
def Block.State.portAtStep (s : Block.State τ) : PortState := if s.phase = .idle then .free else s.port

/-- The events of an acknowledged command cycle answered with `w` (41_protocol_cycle.md R159 (a), (b)). -/
def cycleEvents (packet : List Word) (w : Word) : List Event :=
  [.send packet none, .hs ackTimeoutMs true, .recv (.word w)]

/-- The ways a command cycle fails, each with its events (41_protocol_cycle.md R159 (b) to (e)). -/
def CycleFails (p : Params) (tag : Tag) (packet : List Word) (e : ErrInfo) (events : List Event) : Prop :=
  (∃ x, e = .transportError x ∧ events = [.send packet (some x)]) ∨
  (e = .transportTimeout ∧ events = [.send packet none, .hs ackTimeoutMs false]) ∨
  (∃ x, e = .transportError x ∧ events = [.send packet none, .hs ackTimeoutMs true, .recv (.err x)]) ∨
  (∃ w, w ≠ p.rspDone ∧ e = .protocolFailure tag w ∧ events = cycleEvents packet w)

/-- The next chunk of a WRITE: its length, its data words, its packet (44_write.md R203 to R205), by the closed form of
PACK. -/
def chunkData (b : Bank) (payload : List Byte) (offset : Word) : List Word :=
  packWords (payload.take (b.chunkLen offset (BitVec.ofNat 32 payload.length)).toNat) (b.chunkLane offset)

/-- The packet of the next chunk (30_encoding.md R98, 44_write.md R205). -/
def chunkPacket (p : Params) (b : Bank) (payload : List Byte) (offset : Word) : List Word :=
  flashPacket p (b.chunkLen offset (BitVec.ofNat 32 payload.length)) offset (chunkData b payload offset)
    (checksumOf p.chksInit (chunkData b payload offset))

/-- The chunk sequence of a WRITE (44_write.md R206): the offset of each chunk and the payload that remains at it. `fuel`
bounds the number of chunks; the payload's length is enough (R203: every chunk has at least one byte). -/
def chunkSeq (b : Bank) : Nat → List Byte → Word → List (Word × List Byte)
  | 0, _, _ => []
  | _ + 1, [], _ => []
  | fuel + 1, payload, offset =>
    (offset, payload) ::
      chunkSeq b fuel (payload.drop (b.chunkLen offset (BitVec.ofNat 32 payload.length)).toNat)
        (offset + b.chunkLen offset (BitVec.ofNat 32 payload.length))

/-- The chunk sequence of the whole payload. -/
def chunksOf (b : Bank) (payload : List Byte) (offset : Word) : List (Word × List Byte) :=
  chunkSeq b payload.length payload offset

/-- The events of the acknowledged cycles of these chunks, in order (44_write.md R208). -/
def chunkEvents (p : Params) (b : Bank) (chunks : List (Word × List Byte)) : List Event :=
  chunks.flatMap fun ch => cycleEvents (chunkPacket p b ch.2 ch.1) p.rspDone

/-- `j` is at or beyond the end of every packet of these chunks, so that none of them puts a word there (44_write.md R205). -/
def BeyondPackets (p : Params) (b : Bank) (chunks : List (Word × List Byte)) (j : Nat) : Prop :=
  ∀ ch ∈ chunks, (chunkPacket p b ch.2 ch.1).length ≤ j

/-- The chunks that the WRITE in flight has still to build: all of them before its loop, those from the progress registers on
at the loop's head, and those after the chunk in flight inside a cycle (44_write.md R200, R208). -/
def Block.State.chunksToBuild (s : Block.State τ) : List (Word × List Byte) :=
  if s.phase = .runCheck then chunksOf s.bank s.args.payload s.args.offset
  else if s.phase = .chunk then chunksOf s.bank (s.args.payload.drop s.xfer.payPos.toNat) s.xfer.curOffset
  else chunksOf s.bank (s.args.payload.drop (s.xfer.payPos + s.xfer.runLen).toNat) (s.xfer.curOffset + s.xfer.runLen)

/-- The tag and the packet of an instruction that is one command cycle: the wire commands (30_encoding.md R95 to R98) and
CYCLE itself (41_protocol_cycle.md R151). -/
def commandOf (p : Params) : Instr → Option (Tag × List Word)
  | .wireProbe => some (.probe, [p.opcProbe])
  | .wireEraseAll => some (.eraseAll, [p.opcEraseAll])
  | .wireEraseBlock first last => some (.eraseBlock, [p.opcEraseBlock, first, last])
  | .wireFlashBlock runlen offset data checksum =>
    some (.flashBlock, (p.opcFlashBlock ||| runlen.setWidth 32) :: offset :: (data ++ [checksum]))
  | .cycle tag packet => some (tag, packet)
  | .respDone _ => none
  | .respGeometry _ _ _ _ => none
  | .hostProbe => none
  | .hostErase _ _ => none
  | .hostWrite _ _ => none
  | .pack _ _ => none
  | .drain => none
  | .geomRead => none

/-- The command of an ERASE (43_erase.md R193, R194). -/
def eraseCommand (p : Params) (b : Bank) (first last : Word) : Tag × List Word :=
  if first = 0 ∧ last = b.sectCount - 1 then (.eraseAll, [p.opcEraseAll])
  else (.eraseBlock, [p.opcEraseBlock, first, last])

/-- The events of discarding stale words: a poll and a receive each (42_probe.md R171). -/
def staleEvents (ws : List Word) : List Event := ws.flatMap fun w => [.rxp true, .recv (.word w)]

/-- The events of a drain that discards these words (42_probe.md R182). -/
def drainEvents (ws : List Word) : List Event := staleEvents ws ++ [.rxp false]

/-- The replies of a drain that finds as many stale words as there are pairs: a poll and a receive each
(42_probe.md R182). -/
def pollReplies (polls : List (Reply × Reply)) : List Reply := polls.flatMap fun q => [q.1, q.2]

/-- The events of that drain, before the poll that finds nothing (42_probe.md R182). -/
def pollEvents (polls : List (Reply × Reply)) : List Event := staleEvents (polls.map fun q => q.2.word)

/-- Every poll is true and every receive succeeds. -/
def pollsGood (polls : List (Reply × Reply)) : Prop := ∀ q ∈ polls, q.1.good = true ∧ q.2.good = true

/-- The drain of `n` words is within `DRAIN_LIMIT` (42_probe.md R171). -/
def drainFits (p : Params) (n : Nat) : Prop := ∀ m, p.drainLimit = some m → n ≤ m

/-- The ways a drain fails, each with its events (42_probe.md R171): the receive of a stale word fails, and the error is that
receive's; or one more word is reported than `DRAIN_LIMIT` admits, and the error's content is a free value (log entry 7). -/
def DrainFails (p : Params) (e : ErrInfo) (events : List Event) : Prop :=
  ∃ ws : List Word,
    (∃ x, drainFits p (ws.length + 1) ∧ e = .transportError x ∧ events = staleEvents ws ++ [.rxp true, .recv (.err x)]) ∨
    (∃ n, p.drainLimit = some ws.length ∧ e = .transportError (Config.drainLimitError n) ∧
      events = staleEvents ws ++ [.rxp true])

/-- The four geometry words in order. -/
def Geom.list (g : Geom) : List Word := [g.g0, g.g1, g.g2, g.g3]

/-- The events of reading geometry words, each after its own handshake (42_probe.md R175). -/
def wordEvents (p : Params) (ws : List Word) : List Event :=
  ws.flatMap fun w => [.hs p.geomTimeoutMs true, .recv (.word w)]

/-- The events of the geometry read (42_probe.md R182). -/
def geomEvents (p : Params) (g : Geom) : List Event := wordEvents p g.list

/-- The ways a geometry read fails with the first `k` words of `g` received, each with its events (42_probe.md R175): a receive
fails, and the error is that receive's; or a handshake times out, which it does only where it has a time limit. -/
def GeomFails (p : Params) (g : Geom) (k : Nat) (e : ErrInfo) (events : List Event) : Prop :=
  k < 4 ∧
    ((∃ x, e = .transportError x ∧
        events = wordEvents p (g.list.take k) ++ [.hs p.geomTimeoutMs true, .recv (.err x)]) ∨
      (p.geomTimeoutMs ≠ 0 ∧ e = .transportTimeout ∧
        events = wordEvents p (g.list.take k) ++ [.hs p.geomTimeoutMs false]))

/-- The events of a PROBE that gets as far as its validation: the drain, the command cycle, the geometry read (42_probe.md
R182). -/
def probeEvents (p : Params) (stale : List Word) (g : Geom) : List Event :=
  drainEvents stale ++ cycleEvents [p.opcProbe] p.rspDone ++ geomEvents p g

/-- The ways a PROBE fails, each with its events (60_exceptions.md R227): in the drain, in its command cycle, in the geometry
read, and at the checks of its geometry (42_probe.md R178). `g` and `k` are `G0` to `G3` and `GIDX` at the end. -/
def ProbeFails (p : Params) (g : Geom) (k : Nat) (e : ErrInfo) (events : List Event) : Prop :=
  DrainFails p e events ∨
  (∃ stale fails, CycleFails p .probe [p.opcProbe] e fails ∧ events = drainEvents stale ++ fails) ∨
  (∃ stale fails, GeomFails p g k e fails ∧
    events = drainEvents stale ++ cycleEvents [p.opcProbe] p.rspDone ++ fails) ∨
  (∃ stale, e = .bankInvalid ∧ g.decode.valid p = false ∧ events = probeEvents p stale g)

/-- The replies of one command cycle. -/
structure CycleReplies where
  sent : Reply
  ack : Reply
  response : Reply
  deriving DecidableEq, Repr

/-- In the order of the calls (41_protocol_cycle.md R151). -/
def CycleReplies.list (c : CycleReplies) : List Reply := [c.sent, c.ack, c.response]

/-- Sent, acknowledged, and answered with the sentinel (41_protocol_cycle.md R159 (a)). -/
def CycleReplies.accepts (p : Params) (c : CycleReplies) : Prop :=
  c.sent.good = true ∧ c.ack.good = true ∧ c.response.good = true ∧ c.response.word = p.rspDone

/-- The checks (a) to (f) of 42_probe.md R178 on geometry words, in numbers, with the alignment of R177; and the sector
limit of 92_eei_decisions.md D5. -/
structure GeometryAccepted (p : Params) (g : Geom) (align : Nat) : Prop where
  alignment : align = if g.g3.toNat / 2 ^ 16 = 0 then 1 else g.g3.toNat / 2 ^ 16
  sectors : g.g2.toNat ≠ 0
  wholeSectors : g.g1.toNat % g.g2.toNat = 0
  buffer : g.g3.toNat % 2 ^ 16 ≠ 0
  alignBound : align ≤ g.g3.toNat % 2 ^ 16
  alignDivides : g.g3.toNat % 2 ^ 16 % align = 0
  bufferWords : g.g3.toNat % 2 ^ 16 % 4 = 0
  limit : ∀ m, p.maxSectors = some m → g.g2.toNat ≤ m

/-- The error registers agree on all that an accessor may read of them: the kind, and the information registers which that
kind defines (10_state.md R44 to R47). -/
structure Block.ErrRegs.Agree (r q : Block.ErrRegs τ) : Prop where
  kind : r.kind = q.kind
  protocolFailure : q.kind = .protocolFailure → r.tag = q.tag ∧ r.raw = q.raw
  transportError : q.kind = .transportError → r.transport = q.transport
  failValid : q.kind ≠ .none → r.failValid = q.failValid
  failOffset : q.kind ≠ .none → q.failValid = true → r.failOffset = q.failOffset

/-- The kinds PROBE can end with, and their information (60_exceptions.md R221). -/
def probeError : Block.ErrInfo τ → Bool
  | .transportTimeout => true
  | .protocolFailure tag _ => tag == .probe
  | .bankInvalid => true
  | .transportError _ => true
  | .bankNotProbed => false
  | .targetNotRunning => false

/-- The kinds ERASE can end with, and their information (60_exceptions.md R221). -/
def eraseError : Block.ErrInfo τ → Bool
  | .transportTimeout => true
  | .protocolFailure tag _ => tag == .eraseAll || tag == .eraseBlock
  | .bankNotProbed => true
  | .targetNotRunning => true
  | .transportError _ => true
  | .bankInvalid => false

/-- The kinds WRITE can end with, and their information (60_exceptions.md R221). -/
def writeError : Block.ErrInfo τ → Bool
  | .transportTimeout => true
  | .protocolFailure tag _ => tag == .flashBlock
  | .bankNotProbed => true
  | .targetNotRunning => true
  | .transportError _ => true
  | .bankInvalid => false

/-- What a step that ends the operation in flight saw: `new` are its events, none where it resumes at an internal computation, and
`t` is the state after it. Each error is that of the
last call (60_exceptions.md R220, R237), a TransportError that call's own, verbatim (10_state.md R46), or the exceeded
`DRAIN_LIMIT`'s free value (log entry 7); `BankInvalid` comes from the geometry words and is the end of no call. -/
def ErrorSeen (t : State) (new : List Event) : ErrInfo → Prop
  | .transportTimeout => ∃ ms, ms ≠ 0 ∧ new.getLast? = some (.hs ms false)
  | .protocolFailure tag raw => raw ≠ t.cfg.rspDone ∧ tag = t.tag ∧ raw = t.resp ∧
      (new = [] ∨ new.getLast? = some (.recv (.word raw)))
  | .bankNotProbed => False
  | .bankInvalid => t.geom.decode.valid t.cfg = false ∧
      (new = [] ∨ new.getLast? = some (.recv (.word t.geom.g3)))
  | .targetNotRunning => new.getLast? = some (.run false)
  | .transportError x =>
      (∃ ws, new.getLast? = some (.send ws (some x))) ∨ new.getLast? = some (.recv (.err x)) ∨
      (new.getLast? = some (.rxp true) ∧ t.cfg.drainLimit ≠ none ∧ ∃ n, x = Config.drainLimitError n)

/-- What a step that ends the operation `op` with `OK` saw: the last word it received, if it received one, completes the
operation (42_probe.md R180, 43_erase.md R190, 44_write.md R208), the sentinel in an ERASE and a WRITE, `G3` in a PROBE; an
empty WRITE ends at the target query (R202). -/
def OkSeen (op : OpKind) (t : State) (new : List Event) : Prop :=
  match op with
  | .none => False
  | .probe => t.bank = t.geom.decode ∧ t.bank.valid t.cfg = true ∧
      (new = [] ∨ new.getLast? = some (.recv (.word t.geom.g3)))
  | .erase => t.resp = t.cfg.rspDone ∧ (new = [] ∨ new.getLast? = some (.recv (.word t.cfg.rspDone)))
  | .write => t.xfer.remaining = 0 ∧
      (new = [] ∨ (new = [.run true] ∧ t.args.payload = []) ∨ new.getLast? = some (.recv (.word t.cfg.rspDone)))

/-- The kinds an operation can end with once it is past its first gate. -/
def opError : OpKind → Block.ErrInfo τ → Bool
  | .none, _ => false
  | .probe, e => probeError e
  | .erase, e => eraseError e
  | .write, e => writeError e

/-! ### TransportErrors under other names, of another type: their type is a parameter (10_state.md R46) -/

section Relabel

variable {α β : Type}

/-- The error of a failed send or receive under another name. -/
def Block.Received.relabel (f : TransportErr α → TransportErr β) : Block.Received α → Block.Received β
  | .word w => .word w
  | .err e => .err (f e)

/-- The error of an event under another name. -/
def Block.Event.relabel (f : TransportErr α → TransportErr β) : Block.Event α → Block.Event β
  | .send ws failed => .send ws (failed.map f)
  | .hs t ack => .hs t ack
  | .recv r => .recv (r.relabel f)
  | .rxp b => .rxp b
  | .run b => .run b

/-- The information of an error under another name. -/
def Block.ErrInfo.relabel (f : TransportErr α → TransportErr β) : Block.ErrInfo α → Block.ErrInfo β
  | .transportError e => .transportError (f e)
  | .transportTimeout => .transportTimeout
  | .protocolFailure tag raw => .protocolFailure tag raw
  | .bankNotProbed => .bankNotProbed
  | .bankInvalid => .bankInvalid
  | .targetNotRunning => .targetNotRunning

/-- A result under another name. -/
def Block.OpResult.relabel (f : TransportErr α → TransportErr β) : Block.OpResult α → Block.OpResult β
  | .ok => .ok
  | .err info failOffset => .err (info.relabel f) failOffset

/-- The error registers with `ERR_TRANSPORT` under another name. -/
def Block.ErrRegs.relabel (f : TransportErr α → TransportErr β) (r : Block.ErrRegs α) : Block.ErrRegs β where
  kind := r.kind
  tag := r.tag
  raw := r.raw
  transport := f r.transport
  failOffset := r.failOffset
  failValid := r.failValid

/-- An answer with its error under another name. -/
def Block.Reply.relabel (f : TransportErr α → TransportErr β) (r : Block.Reply α) : Block.Reply β where
  good := r.good
  word := r.word
  err := f r.err

/-- Every TransportError in a state under another name: `ERR_TRANSPORT`, the environment's answers, the events, the results. -/
def Block.State.relabel (f : TransportErr α → TransportErr β) (s : Block.State α) : Block.State β where
  bank := s.bank
  op := s.op
  pstate := s.pstate
  tag := s.tag
  gidx := s.gidx
  geom := s.geom
  xfer := s.xfer
  stg := s.stg
  packer := s.packer
  packed := s.packed
  resp := s.resp
  err := s.err.relabel f
  cfg := s.cfg
  args := s.args
  phase := s.phase
  whole := s.whole
  drained := s.drained
  replies := s.replies.map (Block.Reply.relabel f)
  trace := s.trace.map (Block.Event.relabel f)
  results := s.results.map (Block.OpResult.relabel f)
  calls := s.calls
  resetLine := s.resetLine

/-- An outcome under another name. -/
def relabelOutcome (f : TransportErr α → TransportErr β) :
    Host.Outcome (Block.State α) Fault Refusal → Host.Outcome (Block.State β) Fault Refusal
  | .next s => .next (s.relabel f)
  | .fault e => .fault e
  | .refused r => .refused r

end Relabel

end Sys2Proof.Machine
end

