-- ==== Sys2Proof/Certificates/Slice0/Obligations.lean ====
section
/-! DEFINITION. The statements about this model. Each docstring names the rule or the section it formalises. -/

open Sys2Proof Sys2Proof.Machine

/-! ### Reset and the step -/

/-- The registers the spec gives a reset value (10_state.md R51, decision D14 of the spec): unprobed, `OP = NONE`,
`PSTATE = IDLE`, `ERR_KIND = NONE`, no sector, neither flag. Nothing is said of the registers whose reset value the model
chose (log entry 2). -/
def Obligations.ResetLeavesAnIdleUnprobedBlock : Prop :=
  State.reset.bank = ⟨0, 0, 0, 0, 0⟩ ∧ State.reset.op = .none ∧ State.reset.pstate = .idle ∧
    State.reset.err.kind = .none ∧ State.reset.probed = false ∧ State.reset.busy = false ∧
    ∀ i, State.reset.sect i = none

/-- The invariant holds after reset: of what 10_state.md R51 gives, the bank is all zero (R33), no operation is in progress (R36) and
there is no error kind (R44). Three parts of it rest on the model's own values: that the parameters are legal (00_scope.md R9) on the
default numbers (log entry 1, PRESUMED), that `STG` is in canonical form and within its size (R41) on its being empty, where R51 leaves
it unspecified (log entry 2, DESIGN CHOICE; its size is log entry 3, DEDUCED), and that the position is idle and no packet is about to be sent on the reset
values of the model's own fields (log entries 2 and 4, DESIGN CHOICE). -/
def Obligations.ResetSatisfiesInvariant : Prop := Inv State.reset

/-- Every step keeps the invariant: legal parameters, a canonical staging buffer of `STG_WORDS` words (10_state.md R41), the
bank all zero or sound (R32, R33), the sequencing registers in agreement with the position (R22, R36 to R39), a legal packet
in `STG` wherever one is about to be sent (30_encoding.md R108), no error kind in an operation (R44). The position is the model's own
field (log entry 4, DESIGN CHOICE). That `STG` has that size at all times is log entry 3 (DEDUCED), that a step which resets leaves
it empty is log entry 2 (DESIGN CHOICE), and that a packet submitted otherwise is refused is log entry 18 (DESIGN CHOICE). -/
def Obligations.StepKeepsInvariant : Prop := ∀ s t : State, Inv s → step s = .next t → Inv t

/-- A step runs the instruction that is fetched: the caller's host operation, a part given as a term, a packet given as
its words, when nothing is in flight (10_state.md R22, 00_scope.md R17); the response word in the receive path, when the
block reads one (41_protocol_cycle.md R155). Only the host operations are the spec's submissions (30_encoding.md R107): that a
part or a packet can be submitted, that a packet is decoded without a direction, and that the words after it are dropped, is
the model's choice (log entries 8, 14, 15), and so is that a submission is a request only when it is fetched (log entry 20). -/
def Obligations.StepRunsFetchedInstruction : Prop :=
  ∀ (s : State) (i : Instr), s.resetLine = false → i.wf s.cfg s.bank.bufLen s.bank.bufAlign = true →
    (∀ h rest, s.phase = .idle → s.calls = .host h :: rest → h.instr = i → step s = exec i { s with calls := rest }) ∧
    (∀ rest, s.phase = .idle → s.calls = .part i :: rest → step s = exec i { s with calls := rest }) ∧
    (∀ ws extra rest, s.phase = .idle → s.calls = .packet ws :: rest →
      decodePacket s.cfg s.bank.bufAlign ws = .ok (i, extra) → step s = exec i { s with calls := rest }) ∧
    (∀ r rest, s.phase = .respRead → s.replies = r :: rest → r.good = true → i = .respDone r.word →
      step s = exec i { s with replies := rest })

/-- A step with the reset input asserted abandons whatever is in flight, with no result, and leaves the environment, the
delivered results and the parameters as they are (70_reset_and_hazards.md R262, decision D14 of the spec). That the
registers R51 leaves unspecified take the values of `State.reset` is the model's choice (log entry 2) and not said here. -/
def Obligations.ResetAbandonsTheOperation : Prop :=
  ∀ s : State, s.resetLine = true → ∃ t, step s = .next t ∧
    t.bank = Bank.unprobed ∧ t.op = .none ∧ t.pstate = .idle ∧ t.err.kind = .none ∧ t.engaged = false ∧
    t.resetLine = false ∧ t.results = s.results ∧ t.trace = s.trace ∧ t.replies = s.replies ∧ t.calls = s.calls ∧
    t.cfg = s.cfg

/-- The block waits, and nothing changes, when it is idle with nothing submitted (70_reset_and_hazards.md R261) and when it
is in a call the environment has not answered (20_memory.md R81, R83). -/
def Obligations.WaitingChangesNothing : Prop :=
  ∀ s : State, s.resetLine = false →
    (s.phase = .idle → s.calls = [] → step s = .next s) ∧
    (s.phase ≠ .idle → s.phase.internal = false → s.replies = [] → step s = .next s)

/-- The parameters are constants of the block (10_state.md R21), the caller's submissions are taken only from the front,
and results and events are only ever added at the end, in every step. -/
def Obligations.StepKeepsParametersAndHistory : Prop :=
  ∀ s t : State, step s = .next t →
    t.cfg = s.cfg ∧ t.calls <:+ s.calls ∧ t.replies <:+ s.replies ∧ s.trace <+: t.trace ∧ s.results <+: t.results

/-! ### Encodings -/

/-- Decoding the words of a well-formed instruction gives it back, and the words after it untouched: every wire command
(30_encoding.md R95 to R99, R102), every response word (R103), every four geometry words (R104), for all legal parameters
and device buffers. Of a flash-block only this much of its well-formedness is asked: a start lane, and the data words of its run
length (R102); its filler lanes and its checksum may be any. -/
def Obligations.DecodeEncodeRoundTrip : Prop :=
  ∀ (p : Params) (align : Word) (i : Instr) (ws rest : List Word), p.wf →
    (∀ runlen offset data checksum, i = .wireFlashBlock runlen offset data checksum → align ≠ 0 ∧
      data.length = (offset.toNat % align.toNat % 4 + runlen.toNat + 3) / 4) →
    encode p i = some ws → decodeLike p align i (ws ++ rest) = .ok (i, rest)

/-- What the command decoder accepts is what the encoder writes: no word of a packet is dropped or made up
(30_encoding.md R95 to R99, R102); a flash-block has the data words of its run length and start lane (R102). That none is decoded
where `BUF_ALIGN` is 0, so that there is no start lane (00_scope.md R12), is the model's choice (log entry 18). -/
def Obligations.DecodedCommandEncodesBack : Prop :=
  ∀ (p : Params) (align : Word) (i : Instr) (ws rest : List Word), p.wf →
    decodeCommand p align ws = .ok (i, rest) →
      (∃ own, encode p i = some own ∧ own ++ rest = ws) ∧
      (∀ runlen offset data checksum, i = .wireFlashBlock runlen offset data checksum → align ≠ 0 ∧
        data.length = (offset.toNat % align.toNat % 4 + runlen.toNat + 3) / 4)

/-- A packet submitted without a direction whose word 0 is no opcode's and not the sentinel is rejected by name. R105 names
the opcodes and the sentinel; that such a packet is read as a command first, as the sentinel second, and rejected otherwise is
the model's choice (log entry 15), for 30_encoding.md R109 makes every word a legal response. -/
def Obligations.UnknownOpcodeIsRejected : Prop :=
  ∀ (p : Params) (align w : Word) (ws : List Word), w ≠ p.rspDone →
    w ≠ p.opcProbe → w ≠ p.opcEraseAll → w ≠ p.opcEraseBlock → w.toNat / 2 ^ 16 ≠ p.opcFlashBlock.toNat / 2 ^ 16 →
      decodePacket p align (w :: ws) = .error (.unknownOpcode w)

/-- The table's words decode to the instructions they stand for (spec/opcode_table.json; the numbers are the defaults of
00_scope.md R9, log entry 1). That the sentinel is recognised without a direction, and that 0x12340000 is rejected, is the
model's choice (log entry 15). -/
def Obligations.TableWordsDecode : Prop :=
  decodeTableWord 32 0x0CBE0000 = some .wireProbe ∧
  decodeTableWord 32 0x0CEA0000 = some .wireEraseAll ∧
  decodeTableWord 96 0x00000003000000020CEB0000 = some (.wireEraseBlock 2 3) ∧
  decodeTableWord 128 0x3EFF60D2FFFFADDE000000000CFB0002 = some (.wireFlashBlock 2 0 [0xFFFFADDE] 0x3EFF60D2) ∧
  decodeTableWord 32 0x0ACD0000 = some (.respDone 0x0ACD0000) ∧
  decodeTableWord 32 0x12340000 = none

/-! ### The Block Packer -/

/-- PACK executes when nothing is in flight, for every payload and start lane (40_block_packer.md R130 to R132): it returns the
data words of the closed form, their checksum is in `CHKSUM` and their number in `NWORDS`; the words stand in `STG[2 ..]` as far
as `STG` has words; no other word of `STG` and no other register but the packer's changes, and no interface is touched. The
place of the returned words, `packed`, is the model's own (log entries 3, 4, 8). That a working register which no rule of the
operation has written keeps what it held (10_state.md R23) is the model's choice (log entry 21). -/
def Obligations.PackExecutes : Prop :=
  ∀ (s : State) (payload : List Byte) (o : Word), s.engaged = false → s.stg.wf = true → payload.length < 2 ^ 32 →
    ∃ t, exec (.pack payload o) s = .next t ∧
      t = { s with whole := false, packer := t.packer, stg := t.stg, packed := packWords payload o } ∧
      t.packer.chkSum = checksumOf s.cfg.chksInit (packWords payload o) ∧
      t.packer.nWords.toNat = (packWords payload o).length ∧
      (∀ k w, (packWords payload o)[k]? = some w → 2 + k < s.bank.stgWords → t.stg.read (2 + k) = w) ∧
      (∀ j, j < 2 ∨ 2 + (packWords payload o).length ≤ j ∨ s.bank.stgWords ≤ j → t.stg.read j = s.stg.read j)

/-- The sequential form of PACK is the closed form (40_block_packer.md R133), into a staging buffer of any size: the words it
stores, the checksum, the count, and the lane it ends at. -/
def Obligations.PackSequentialIsClosedForm : Prop :=
  ∀ (size : Nat) (seed o : Word) (stg : Memory) (payload : List Byte), stg.wf = true → payload.length < 2 ^ 32 →
    (packRun size seed stg payload o).stg = stg.writeAll size 2 (packWords payload o) ∧
    (packRun size seed stg payload o).regs.chkSum = checksumOf seed (packWords payload o) ∧
    (packRun size seed stg payload o).regs.nWords = BitVec.ofNat 32 (packWords payload o).length ∧
    (packRun size seed stg payload o).regs.byteOfs = BitVec.ofNat 2 (o.toNat + payload.length)

/-- The packing round trip (40_block_packer.md R139): unpacking gives the payload back, and every lane of every word that
holds no payload byte, before it or after it, is 0xFF (R135, R136). -/
def Obligations.PackRoundTripAndFiller : Prop :=
  ∀ (payload : List Byte) (o : Word),
    unpack (packWords payload o) (o.toNat % 4) payload.length = payload ∧
    ∀ k j w, (packWords payload o)[k]? = some w → j < 4 →
      (4 * k + j < o.toNat % 4 ∨ o.toNat % 4 + payload.length ≤ 4 * k + j) → laneOf w j = 0xFF

/-- The word count (40_block_packer.md R138): for a payload that is not empty `N = ceil((b0 + n) / 4)` words, so between
`ceil(n/4)` and one more, and exactly `ceil(n/4)` from lane 0; their lanes are the `b0` before the payload, the payload's, and
the trailing filler's. That for an empty payload there is no word, and the checksum is the seed, is R137, decision D21 of the
spec (92_eei_decisions.md). -/
def Obligations.PackWordCount : Prop :=
  ∀ (payload : List Byte) (o : Word),
    (payload ≠ [] →
      (packWords payload o).length = (o.toNat % 4 + payload.length + 3) / 4 ∧
      (payload.length + 3) / 4 ≤ (packWords payload o).length ∧
      (packWords payload o).length ≤ (payload.length + 3) / 4 + 1 ∧
      (o.toNat % 4 = 0 → (packWords payload o).length = (payload.length + 3) / 4) ∧
      4 * (packWords payload o).length =
        o.toNat % 4 + payload.length + (4 - (o.toNat % 4 + payload.length) % 4) % 4) ∧
    (payload = [] → packWords payload o = [] ∧ ∀ seed, checksumOf seed (packWords payload o) = seed)

/-- Changing one byte changes the checksum, in that byte's lane, by the exclusive or of the two bytes
(40_block_packer.md R140 (b)). -/
def Obligations.PackChecksumSeesOneByte : Prop :=
  ∀ (seed o : Word) (payload : List Byte) (i : Nat) (b c : Byte), payload[i]? = some b → b ≠ c →
    checksumOf seed (packWords (payload.set i c) o) =
      checksumOf seed (packWords payload o) ^^^ ((b ^^^ c).setWidth 32 <<< (8 * ((o.toNat % 4 + i) % 4))) ∧
    checksumOf seed (packWords (payload.set i c) o) ≠ checksumOf seed (packWords payload o)

/-- Why the filler is 0xFF (70_reset_and_hazards.md R266, 20_memory.md R64): ANDing the packed words into the flash leaves
every flash byte as it was whose lane holds no payload byte, and ANDs the payload byte into every other. -/
def Obligations.PackedWordsKeepOtherFlashBytes : Prop :=
  ∀ (payload : List Byte) (o flash w : Word) (k j : Nat), (packWords payload o)[k]? = some w → j < 4 →
    (4 * k + j < o.toNat % 4 ∨ o.toNat % 4 + payload.length ≤ 4 * k + j → laneOf (flash &&& w) j = laneOf flash j) ∧
    (∀ b, o.toNat % 4 ≤ 4 * k + j → payload[4 * k + j - o.toNat % 4]? = some b →
      laneOf (flash &&& w) j = laneOf flash j &&& b)

/-! ### The command cycle and the wire commands -/

/-- The four wire commands and CYCLE execute (41_protocol_cycle.md R151 to R156): with nothing in flight (and `PSTATE`
`IDLE` for CYCLE, its precondition), for every packet the block can emit (30_encoding.md R98, R108), sent, acknowledged and
answered with the sentinel, the packet is sent whole and in order by one send, one handshake of 1000 ms and one receive follow,
`TAG`, `RESP` and `STG` are written, `PSTATE` is `DONE`; nothing else changes. That these run alone, and that CYCLE writes its
packet into `STG` first, is the model's choice (log entry 8). That a working register which no rule of the operation has
written keeps what it held (10_state.md R23) is the model's choice (log entry 21). -/
def Obligations.WireCommandsComplete : Prop :=
  ∀ (s : State) (i : Instr) (tag : Tag) (packet : List Word) (c : CycleReplies) (rest : List Reply),
    commandOf s.cfg i = some (tag, packet) → i.wf s.cfg s.bank.bufLen s.bank.bufAlign = true →
    s.engaged = false → s.stg.wf = true →
    (i = .cycle tag packet → s.pstate = .idle) → c.accepts s.cfg → s.replies = c.list ++ rest →
      exec i s = .next { s with
        whole := false, tag := tag, stg := s.stg.writeAll s.bank.stgWords 0 packet, resp := s.cfg.rspDone, pstate := .done,
        replies := rest, trace := s.trace ++ cycleEvents packet s.cfg.rspDone }

/-- Any other response word is a failure (41_protocol_cycle.md R156, 30_encoding.md R103): `PSTATE` is `FAILED`, the error
registers hold the kind, the tag and the word verbatim. That the command runs alone, and that outside an operation no result
is delivered and the bank stays, also for `probe`, is the model's choice (log entry 8). That a working register which no rule
of the operation has written keeps what it held (10_state.md R23) is the model's choice (log entry 21). That an error register
which the outcome does not define, where R45 to R47 leave it unspecified (93_implementation_defined.md U5), keeps what it held
is the model's choice (log entry 6). -/
def Obligations.WireCommandsReportFailure : Prop :=
  ∀ (s : State) (i : Instr) (tag : Tag) (packet : List Word) (c : CycleReplies) (rest : List Reply),
    commandOf s.cfg i = some (tag, packet) → i.wf s.cfg s.bank.bufLen s.bank.bufAlign = true →
    s.engaged = false → s.stg.wf = true →
    (i = .cycle tag packet → s.pstate = .idle) → c.sent.good = true → c.ack.good = true → c.response.good = true →
    c.response.word ≠ s.cfg.rspDone → s.replies = c.list ++ rest →
      exec i s = .next { s with
        whole := false, tag := tag, stg := s.stg.writeAll s.bank.stgWords 0 packet, resp := c.response.word, pstate := .failed,
        err := { s.err with
          kind := .protocolFailure, tag := tag, raw := c.response.word, failValid := false },
        replies := rest, trace := s.trace ++ cycleEvents packet c.response.word }

/-- The three traces a transport error or a timeout cuts short (41_protocol_cycle.md R153, R154, R155; R159 (c), (d), (e)):
nothing is called after the failing call, `PSTATE` is `FAILED`, and the error registers hold the error. That the command runs
alone, and that outside an operation no result is delivered and the bank stays, also for `probe`, is the model's choice (log
entry 8). That a working register which no rule of the operation has written keeps what it held (10_state.md R23) is the
model's choice (log entry 21). That an error register which the outcome does not define, where R45 to R47 leave it unspecified
(93_implementation_defined.md U5), keeps what it held is the model's choice (log entry 6). -/
def Obligations.WireCommandsCutShort : Prop :=
  ∀ (s : State) (i : Instr) (tag : Tag) (packet : List Word) (rest : List Reply),
    commandOf s.cfg i = some (tag, packet) → i.wf s.cfg s.bank.bufLen s.bank.bufAlign = true →
    s.engaged = false → s.stg.wf = true →
    (i = .cycle tag packet → s.pstate = .idle) →
    (∀ r, r.good = false → s.replies = r :: rest →
      exec i s = .next { s with
        whole := false, tag := tag, stg := s.stg.writeAll s.bank.stgWords 0 packet, pstate := .failed,
        err := { s.err with kind := .transportError, transport := r.err, failValid := false },
        replies := rest, trace := s.trace ++ [.send packet (some r.err)] }) ∧
    (∀ a r, a.good = true → r.good = false → s.replies = a :: r :: rest →
      exec i s = .next { s with
        whole := false, tag := tag, stg := s.stg.writeAll s.bank.stgWords 0 packet, pstate := .failed,
        err := { s.err with kind := .transportTimeout, failValid := false },
        replies := rest, trace := s.trace ++ [.send packet none, .hs 1000 false] }) ∧
    (∀ a b r, a.good = true → b.good = true → r.good = false → s.replies = a :: b :: r :: rest →
      exec i s = .next { s with
        whole := false, tag := tag, stg := s.stg.writeAll s.bank.stgWords 0 packet, pstate := .failed,
        err := { s.err with kind := .transportError, transport := r.err, failValid := false },
        replies := rest, trace := s.trace ++ [.send packet none, .hs 1000 true, .recv (.err r.err)] })

/-- What a wire command or a bare CYCLE leaves unchanged, for every list of answers (41_protocol_cycle.md R151, 10_state.md
R33): the bank, the geometry, transfer and packer registers, `FAIL_OFFSET`, the results, and `STG` beyond the packet. It ends
idle, or waits in one of its three calls with its packet in `STG`. That such a command runs alone, and that on every answer,
errors included, the results, `OP` and the bank stay, is the model's choice (log entry 8). That a working register which no
rule of the operation has written keeps what it held (10_state.md R23) is the model's choice (log entry 21). That an error
register which the outcome does not define, where R45 to R47 leave it unspecified (93_implementation_defined.md U5), keeps
what it held is the model's choice (log entry 6). -/
def Obligations.WireCommandsFrame : Prop :=
  ∀ (s : State) (i : Instr) (tag : Tag) (packet : List Word),
    commandOf s.cfg i = some (tag, packet) → i.wf s.cfg s.bank.bufLen s.bank.bufAlign = true →
    s.engaged = false → s.stg.wf = true →
    (i = .cycle tag packet → s.pstate = .idle) →
      ∃ t, exec i s = .next t ∧ t.bank = s.bank ∧ t.geom = s.geom ∧ t.gidx = s.gidx ∧ t.xfer = s.xfer ∧
        t.packer = s.packer ∧ t.cfg = s.cfg ∧ t.args = s.args ∧ t.op = .none ∧ t.results = s.results ∧
        t.err.failOffset = s.err.failOffset ∧ t.tag = tag ∧ t.stg = s.stg.writeAll s.bank.stgWords 0 packet ∧
        (∀ j, packet.length ≤ j → t.stg.read j = s.stg.read j) ∧
        (t.phase = .idle ∨ t.phase = .send packet.length ∨ t.phase = .ackWait ∨ t.phase = .respRead)

/-- CYCLE from another state than `IDLE` has no transition (41_protocol_cycle.md R150, R151). A packet that is none of the
block's four formats is never emitted (R151, 30_encoding.md R98, R108), and the flash-blocks among those are exactly these: a run
length of 0; no start lane; a chunk that leaves the device buffer (20_memory.md R75), as one above `BUF_LEN` does; a wrong number of
data words (R98, R102), or more than `BUF_LEN / 4` of them; a checksum that is not R98's; a filler lane that is not 0xFF
(40_block_packer.md R135, R136). That the machine then stops, with the fault `noTransition` and the refusal `illFormed`, is the
model's choice (log entries 11, 18). -/
def Obligations.CycleOutsideIdleHasNoTransition : Prop :=
  (∀ (s : State) (tag : Tag) (packet : List Word), s.engaged = false → s.pstate ≠ .idle →
    exec (.cycle tag packet) s = .fault .noTransition) ∧
  (∀ (s : State) (tag : Tag) (packet : List Word), s.engaged = false → s.pstate = .idle →
    isPacketOf s.cfg s.bank.bufLen s.bank.bufAlign tag packet = false →
    exec (.cycle tag packet) s = .refused .illFormed) ∧
  (∀ (s : State) (runlen : BitVec 16) (offset : Word) (data : List Word) (checksum : Word), s.engaged = false →
    (exec (.wireFlashBlock runlen offset data checksum) s = .refused .illFormed ↔
      runlen = 0 ∨ s.bank.bufAlign = 0 ∨
      s.bank.bufLen.toNat < offset.toNat % s.bank.bufAlign.toNat + runlen.toNat ∨
      data.length ≠ (offset.toNat % s.bank.bufAlign.toNat % 4 + runlen.toNat + 3) / 4 ∨
      s.bank.bufLen.toNat / 4 < data.length ∨
      checksum ≠ checksumOf s.cfg.chksInit data ∨
      ∃ k j w, data[k]? = some w ∧ j < 4 ∧
        (4 * k + j < offset.toNat % s.bank.bufAlign.toNat % 4 ∨
          offset.toNat % s.bank.bufAlign.toNat % 4 + runlen.toNat ≤ 4 * k + j) ∧ laneOf w j ≠ 0xFF))

/-- Nothing is accepted while something is in flight (30_encoding.md R91, decision D17 of the spec): every host operation is
refused, whatever its operands. R91 speaks of host operations while `OP` is not `NONE`; that internal operations and wire
commands are refused too, and that a part running alone refuses as well, is the model's choice (log entry 8), and so is that
what the caller submits meanwhile waits in its list and is no such request before it is fetched (log entry 20). -/
def Obligations.NothingIsAcceptedWhileEngaged : Prop :=
  ∀ (s : State) (i : Instr), s.engaged = true → (∀ c, i ≠ .respDone c) → (∀ a b c d, i ≠ .respGeometry a b c d) →
    exec i s = .refused .operationInProgress

/-- The transitions of `PSTATE` (41_protocol_cycle.md R150, R157): in a state whose sequencing registers agree, one tick
leaves `PSTATE` or takes a transition of the table, or `DONE -> IDLE` for the next chunk of a WRITE; that last one in a
WRITE only. -/
def Obligations.TickFollowsTransitionTable : Prop :=
  ∀ s t : State, PhaseOk s → tick s = some t →
    t.pstate = s.pstate ∨
      (legalTransition s.pstate t.pstate = true ∧ (s.pstate = .done → s.op = .write ∧ s.phase = .chunk))

/-- One outstanding command (20_memory.md R82, R81, 41_protocol_cycle.md R158): in every step but a reset, one that starts an
instruction or one that resumes what is in flight, whatever the environment answers, the events are in the order of the command
cycle: no packet is sent before the response of the one before it has been read, and after a failed cycle or any other failing
call the operation makes no further call. Under the machine's invariant every packet sent is one wire command that the block may
emit (30_encoding.md R108): one of the four formats, a flash-block with a run length from 1 to `BUF_LEN` and the data words and
checksum of R98. -/
def Obligations.OneOutstandingCommand : Prop :=
  ∀ s t : State, s.resetLine = false → step s = .next t →
    ∃ new q, t.trace = s.trace ++ new ∧ portAfter s.cfg (some s.portAtStep) new = some q ∧
      (q = t.port ∨ (q = .free ∧ t.phase = .idle)) ∧
      (Inv s → ∀ ws failed, .send ws failed ∈ new →
        ∃ tag, isPacketOf s.cfg s.bank.bufLen s.bank.bufAlign tag ws = true)

/-! ### Responses -/

/-- DECODE (41_protocol_cycle.md R156), in every operation and every state: the response word against the sentinel on all 32
bits; equal, `PSTATE` is `DONE`; anything else, `PSTATE` is `FAILED` and the error is `ProtocolFailure` with the cycle's tag
and the word verbatim. -/
def Obligations.ResponseIsDecodedAgainstTheSentinel : Prop :=
  ∀ s : State, s.phase = .respCheck → ∃ t, tick s = some t ∧
    (s.resp = s.cfg.rspDone → t.pstate = .done) ∧
    (s.resp ≠ s.cfg.rspDone → t.pstate = .failed ∧ t.err.kind = .protocolFailure ∧ t.err.tag = s.tag ∧
      t.err.raw = s.resp)

/-- A response word is read and decoded where the block reads one (41_protocol_cycle.md R155, R156): a bare cycle ends in
`DONE` on the sentinel and in `FAILED` on any other word, which the error registers hold. That a cycle runs alone, and that its
failure is recorded with no result and no other effect, is the model's choice (log entry 8). That a working register which no
rule of the operation has written keeps what it held (10_state.md R23) is the model's choice (log entry 21). That an error
register which the outcome does not define, where R45 to R47 leave it unspecified (93_implementation_defined.md U5), keeps
what it held is the model's choice (log entry 6). -/
def Obligations.ResponseEndsABareCycle : Prop :=
  ∀ (s : State) (code : Word), s.phase = .respRead → s.whole = false → s.op = .none →
    (code = s.cfg.rspDone → exec (.respDone code) s = .next { s with
      resp := code, pstate := .done, phase := .idle, trace := s.trace ++ [.recv (.word code)] }) ∧
    (code ≠ s.cfg.rspDone → exec (.respDone code) s = .next { s with
      resp := code, pstate := .failed, phase := .idle, trace := s.trace ++ [.recv (.word code)],
      err := { s.err with kind := .protocolFailure, tag := s.tag, raw := code, failValid := false } })

/-- The response word of an ERASE ends it (43_erase.md R190, 41_protocol_cycle.md R156): `OK` on the sentinel, and
otherwise `ProtocolFailure` with the cycle's tag and the word verbatim. That a working register which no rule of the operation
has written keeps what it held (10_state.md R23) is the model's choice (log entry 21). That an error register which the
outcome does not define, where R45 to R47 leave it unspecified (93_implementation_defined.md U5), keeps what it held is the
model's choice (log entry 6). -/
def Obligations.ResponseEndsAnErase : Prop :=
  ∀ (s : State) (code : Word), s.phase = .respRead → s.whole = true → s.op = .erase →
    (code = s.cfg.rspDone → exec (.respDone code) s = .next { s with
      resp := code, pstate := .done, phase := .idle, op := .none, whole := false,
      trace := s.trace ++ [.recv (.word code)], err := { s.err with kind := .none },
      results := s.results ++ [.ok] }) ∧
    (code ≠ s.cfg.rspDone → exec (.respDone code) s = .next { s with
      resp := code, pstate := .failed, phase := .idle, op := .none, whole := false,
      trace := s.trace ++ [.recv (.word code)],
      err := { s.err with kind := .protocolFailure, tag := s.tag, raw := code, failValid := false },
      results := s.results ++ [.err (.protocolFailure s.tag code) none] })

/-- The response word of a PROBE's command (42_probe.md R170, 41_protocol_cycle.md R156): on the sentinel the block goes on to
wait for the first geometry word; on any other word the bank is cleared (R181) and the result is `ProtocolFailure`. That `STG`
is then sized from the cleared bank (10_state.md R41) is log entry 3 (DEDUCED); that `PSTATE` is `DONE` while the first
geometry word is awaited (R175) is log entry 19 (DEDUCED). That a working register which no rule of the operation has written
keeps what it held (10_state.md R23) is the model's choice (log entry 21). That an error register which the outcome does not
define, where R45 to R47 leave it unspecified (93_implementation_defined.md U5), keeps what it held is the model's choice (log
entry 6). -/
def Obligations.ResponseInsideAProbe : Prop :=
  ∀ (s : State) (code : Word), s.phase = .respRead → s.whole = true → s.op = .probe →
    (code = s.cfg.rspDone → s.replies = [] → exec (.respDone code) s = .next { s with
      resp := code, pstate := .done, phase := .geomWait, gidx := 0, trace := s.trace ++ [.recv (.word code)] }) ∧
    (code ≠ s.cfg.rspDone → exec (.respDone code) s = .next { s with
      bank := Bank.unprobed, stg := s.stg.fit Bank.unprobed.stgWords, resp := code, pstate := .failed, phase := .idle,
      op := .none, whole := false,
      trace := s.trace ++ [.recv (.word code)],
      err := { s.err with kind := .protocolFailure, tag := s.tag, raw := code, failValid := false },
      results := s.results ++ [.err (.protocolFailure s.tag code) none] })

/-- The response word of a chunk of a WRITE (44_write.md R208, R209): on the sentinel the offset, the payload index and the
count of bytes remaining advance by the chunk's length, and the WRITE ends with `OK` if none remains and starts its next
cycle otherwise; on any other word it ends with `ProtocolFailure`, and `FAIL_OFFSET` holds the chunk's offset. That a working
register which no rule of the operation has written keeps what it held (10_state.md R23) is the model's choice (log entry 21).
That an error register which the outcome does not define, where R45 to R47 leave it unspecified (93_implementation_defined.md
U5), keeps what it held is the model's choice (log entry 6). -/
def Obligations.ResponseInsideAWrite : Prop :=
  ∀ (s : State) (code : Word), s.phase = .respRead → s.whole = true → s.op = .write →
    (code = s.cfg.rspDone → s.xfer.remaining = s.xfer.runLen → exec (.respDone code) s = .next { s with
      resp := code, pstate := .done, phase := .idle, op := .none, whole := false,
      xfer := ⟨s.xfer.curOffset + s.xfer.runLen, 0, s.xfer.runLen, s.xfer.payPos + s.xfer.runLen⟩,
      trace := s.trace ++ [.recv (.word code)], err := { s.err with kind := .none },
      results := s.results ++ [.ok] }) ∧
    (code = s.cfg.rspDone → s.xfer.remaining ≠ s.xfer.runLen → s.replies = [] →
      ∃ t n, exec (.respDone code) s = .next t ∧ t.phase = .send n ∧ t.op = .write ∧ t.pstate = .idle ∧
        t.tag = .flashBlock ∧ t.xfer.curOffset = s.xfer.curOffset + s.xfer.runLen ∧
        t.xfer.payPos = s.xfer.payPos + s.xfer.runLen ∧ t.xfer.remaining = s.xfer.remaining - s.xfer.runLen ∧
        t.bank = s.bank ∧ t.results = s.results ∧ t.trace = s.trace ++ [.recv (.word code)]) ∧
    (code ≠ s.cfg.rspDone → exec (.respDone code) s = .next { s with
      resp := code, pstate := .failed, phase := .idle, op := .none, whole := false,
      trace := s.trace ++ [.recv (.word code)],
      err := { s.err with
        kind := .protocolFailure, tag := s.tag, raw := code, failOffset := s.xfer.curOffset, failValid := true },
      results := s.results ++ [.err (.protocolFailure s.tag code) (some s.xfer.curOffset)] })

/-- Words that come where the block is inside no receive (and, for geometry words, not in its geometry read) are not seen: its
state is unchanged, and they stay in the receive path, the environment's (10_state.md R50, 70_reset_and_hazards.md R268). Where
the block is inside a receive, the word is what that receive returns: discarded by the drain (42_probe.md R171), the next
geometry word in the geometry read (R175), the response otherwise. Of four words the drain, the response's receive and the receive
of the last geometry word take the first only; what the geometry read does with them, and with its last word, is
`GeometryWordsEndTheRead`. That the rows `done` and `geometry` are such words is log entry 13 (DEDUCED). -/
def Obligations.UnreadResponseIsNotSeen : Prop :=
  ∀ (s : State) (code g0 g1 g2 g3 : Word),
    (s.phase.receiving = false → exec (.respDone code) s = .next s) ∧
    (s.phase.receiving = false → s.phase ≠ .geomWait → exec (.respGeometry g0 g1 g2 g3) s = .next s) ∧
    (s.phase = .drainTake → s.replies = [] → exec (.respDone code) s = .next { s with
      phase := .drainPoll, drained := s.drained + 1, trace := s.trace ++ [.recv (.word code)] }) ∧
    (s.phase = .geomRead → s.gidx ≠ 3 → s.replies = [] → exec (.respDone code) s = .next { s with
      phase := .geomWait, gidx := s.gidx + 1, geom := s.geom.set s.gidx code,
      trace := s.trace ++ [.recv (.word code)] }) ∧
    (s.phase = .drainTake ∨ s.phase = .respRead ∨ (s.phase = .geomRead ∧ s.gidx = 3) →
      exec (.respGeometry g0 g1 g2 g3) s = exec (.respDone g0) s)

/-- The geometry words in the geometry read, where it awaits the handshake of word `GIDX` or, that acknowledged, receives the
word (42_probe.md R175 to R180). Within PROBE the decoded bank is then committed in one step with result `OK`, or the bank is
cleared with `BankInvalid` (R181). A word of the row `done` is the last one where that is received. That the row's words are
read in order, each of the others after its own acknowledged handshake, until `G0` to `G3` are there, and the rest left to the
environment, is log entry 13 (DEDUCED); that `STG` is sized from the new bank (10_state.md R41) is log entry 3 (DEDUCED); that
a GEOMREAD run alone validates nothing and keeps the bank is log entry 8 (DESIGN CHOICE). That a working register which no
rule of the operation has written keeps what it held (10_state.md R23) is the model's choice (log entry 21). That an error
register which the outcome does not define, where R45 to R47 leave it unspecified (93_implementation_defined.md U5), keeps
what it held is the model's choice (log entry 6). -/
def Obligations.GeometryWordsEndTheRead : Prop :=
  ∀ (s : State) (g f : Geom) (events : List Event), s.phase = .geomWait ∨ s.phase = .geomRead → s.gidx.toNat < 4 →
    f.list = s.geom.list.take s.gidx.toNat ++ g.list.take (4 - s.gidx.toNat) →
    events = (wordEvents s.cfg (g.list.take (4 - s.gidx.toNat))).drop (if s.phase = .geomRead then 1 else 0) →
    (s.phase = .geomRead → s.gidx = 3 →
      exec (.respDone g.g0) s = exec (.respGeometry g.g0 g.g1 g.g2 g.g3) s) ∧
    (s.whole = true → s.op = .probe → f.decode.valid s.cfg = true →
      exec (.respGeometry g.g0 g.g1 g.g2 g.g3) s = .next { s with
        bank := f.decode, stg := s.stg.fit f.decode.stgWords, geom := f, gidx := 4, phase := .idle, op := .none,
        whole := false, err := { s.err with kind := .none },
        trace := s.trace ++ events, results := s.results ++ [.ok] }) ∧
    (s.whole = true → s.op = .probe → f.decode.valid s.cfg = false →
      exec (.respGeometry g.g0 g.g1 g.g2 g.g3) s = .next { s with
        bank := Bank.unprobed, stg := s.stg.fit Bank.unprobed.stgWords, geom := f, gidx := 4, phase := .idle,
        op := .none, whole := false, err := { s.err with kind := .bankInvalid, failValid := false },
        trace := s.trace ++ events, results := s.results ++ [.err .bankInvalid none] }) ∧
    (s.whole = false → exec (.respGeometry g.g0 g.g1 g.g2 g.g3) s = .next { s with
      geom := f, gidx := 4, phase := .idle, trace := s.trace ++ events })

/-! ### PROBE and its parts -/

/-- The geometry is accepted exactly when the checks (a) to (f) of 42_probe.md R178 hold of its words, with the alignment
read as 1 where it is reported as 0 (R177), and the sector limit where it is set (92_eei_decisions.md D5). -/
def Obligations.GeometryChecks : Prop :=
  ∀ (p : Params) (g : Geom),
    g.decode.valid p = true ↔ GeometryAccepted p g g.decode.bufAlign.toNat

/-- The decode of the geometry words (42_probe.md R176): `G0` the base address, `G1` the total size, `G2` the sector count,
`G3[15:0]` the buffer length, `G3[31:16]` the buffer alignment (where it is not reported as 0, R177); no byte is swapped. -/
def Obligations.GeometryWordsDecode : Prop :=
  ∀ g : Geom, g.decode.baseAddr = g.g0 ∧ g.decode.totalSize = g.g1 ∧ g.decode.sectCount = g.g2 ∧
    g.decode.bufLen.toNat = g.g3.toNat % 2 ^ 16 ∧
    g.decode.bufAlign.toNat = if g.g3.toNat / 2 ^ 16 = 0 then 1 else g.g3.toNat / 2 ^ 16

/-- PROBE executes (42_probe.md R170, R180, R182): whatever stale words wait, within `DRAIN_LIMIT`, they are discarded; the
command is sent, acknowledged and answered with the sentinel; the four words are read; and if they are accepted the bank
they describe is committed, and the result is `OK`. Nothing else changes but `STG`: that it keeps its words, and is sized from the
new bank (10_state.md R41), is log entry 3 (DEDUCED). That a working register which no rule of the operation has written keeps
what it held (10_state.md R23) is the model's choice (log entry 21). That an error register which the outcome does not define,
where R45 to R47 leave it unspecified (93_implementation_defined.md U5), keeps what it held is the model's choice (log entry
6). -/
def Obligations.ProbeCompletes : Prop :=
  ∀ (s : State) (polls : List (Reply × Reply)) (none' : Reply) (c : CycleReplies) (h0 w0 h1 w1 h2 w2 h3 w3 : Reply)
    (rest : List Reply),
    s.engaged = false → s.stg.wf = true → pollsGood polls → drainFits s.cfg polls.length → none'.good = false →
    c.accepts s.cfg →
    (∀ r ∈ [h0, w0, h1, w1, h2, w2, h3, w3], r.good = true) →
    s.replies = pollReplies polls ++ none' :: (c.list ++ [h0, w0, h1, w1, h2, w2, h3, w3] ++ rest) →
    Bank.valid s.cfg (Geom.decode ⟨w0.word, w1.word, w2.word, w3.word⟩) = true →
      exec .hostProbe s = .next { s with
        bank := Geom.decode ⟨w0.word, w1.word, w2.word, w3.word⟩
        geom := ⟨w0.word, w1.word, w2.word, w3.word⟩
        gidx := 4, pstate := .done, tag := .probe, resp := s.cfg.rspDone
        stg := (s.stg.writeAll s.bank.stgWords 0 [s.cfg.opcProbe]).fit
          (Geom.decode ⟨w0.word, w1.word, w2.word, w3.word⟩).stgWords
        whole := false, args := Args.empty, drained := polls.length, replies := rest
        err := { s.err with kind := .none }
        results := s.results ++ [.ok]
        trace := s.trace ++ (pollEvents polls ++ .rxp false :: (cycleEvents [s.cfg.opcProbe] s.cfg.rspDone ++
          geomEvents s.cfg ⟨w0.word, w1.word, w2.word, w3.word⟩)) }

/-- Every way a PROBE can go (10_state.md R33, 42_probe.md R181, 60_exceptions.md R221), for every list of answers: it ends
with `OK` on a sound bank; or it ends with one of its errors and the bank is unprobed, whatever it held; or it still waits
and the bank is as it was. It is never refused when nothing is in flight (42_probe.md R172). Its events say which, with the staging
buffer in canonical form (R182, 60_exceptions.md R227, R237): `OK` follows the whole drain, the acknowledged cycle with the sentinel
and the four words; each error follows the failing call that gives it, and a TransportError is that call's, verbatim (10_state.md
R46), or, beyond `DRAIN_LIMIT`, a free value (log entry 7); a PROBE that waits has done a first part of these. That an error
register which the outcome does not define, where R45 to R47 leave it unspecified (93_implementation_defined.md U5), keeps
what it held is the model's choice (log entry 6). -/
def Obligations.ProbeIsAllOrNothing : Prop :=
  ∀ s : State, s.engaged = false → ∃ t new, exec .hostProbe s = .next t ∧ t.trace = s.trace ++ new ∧
    (s.stg.wf = true →
      (t.results = s.results ++ [.ok] → ∃ stale, new = probeEvents s.cfg stale t.geom) ∧
      (∀ e o, t.results = s.results ++ [.err e o] →
        ProbeFails s.cfg t.geom t.gidx.toNat e new ∧ t.err = s.err.record e none) ∧
      (t.results = s.results → ∃ stale, new <+: probeEvents s.cfg stale t.geom)) ∧
    ((t.op = .none ∧ t.results = s.results ++ [.ok] ∧ BankSound t.bank ∧ t.err.kind = .none) ∨
     (∃ e, t.op = .none ∧ t.results = s.results ++ [.err e none] ∧ probeError e = true ∧ t.bank = Bank.unprobed ∧
       t.err.kind = e.kind) ∨
     (t.op = .probe ∧ t.results = s.results ∧ t.bank = s.bank ∧ t.phase ≠ .idle ∧ t.replies = []))

/-- Who writes the Bank Model (10_state.md R33), over every step but a reset, one that starts an instruction or one that
resumes what is in flight, from every state whose sequencing registers agree: only PROBE. While PROBE goes on the bank is as
it was; when it ends with `OK` the bank is the decoded geometry, all of it, and when it ends with an error the bank is all
zero and the sector table empty, whatever they held. That a part running alone, a `probe` command, a DRAIN or a GEOMREAD that
fails among them, keeps the bank is the model's choice (log entry 8). -/
def Obligations.OnlyProbeWritesTheBank : Prop :=
  ∀ s t : State, PhaseOk s → s.resetLine = false → step s = .next t →
    (s.op ≠ .probe → (∀ u, fetch s ≠ .run .hostProbe u) → t.bank = s.bank) ∧
    (s.op = .probe ∨ (∃ u, fetch s = .run .hostProbe u) →
      (t.op = .probe ∧ t.results = s.results ∧ t.bank = s.bank) ∨
      (t.op = .none ∧ t.results = s.results ++ [.ok] ∧ t.bank = t.geom.decode ∧ t.bank.valid s.cfg = true) ∨
      (t.op = .none ∧ (∃ e, t.results = s.results ++ [.err e none]) ∧ t.bank = ⟨0, 0, 0, 0, 0⟩ ∧ ∀ i, t.sect i = none))

/-- What a PROBE leaves unchanged, for every list of answers: the transfer and packer registers, the parameters, the
caller's list, every word of `STG` but word 0 as far as `STG` has words when it ends (10_state.md R41), and it never asks whether
the target runs (42_probe.md R172). That a working register which no rule of the operation has written keeps what it held
(10_state.md R23) is the model's choice (log entry 21). That an error register which the outcome does not define, where R45 to
R47 leave it unspecified (93_implementation_defined.md U5), keeps what it held is the model's choice (log entry 6). -/
def Obligations.ProbeFrame : Prop :=
  ∀ s t : State, s.stg.wf = true → exec .hostProbe s = .next t →
    t.xfer = s.xfer ∧ t.packer = s.packer ∧ t.cfg = s.cfg ∧ t.calls = s.calls ∧
    t.err.failOffset = s.err.failOffset ∧
    (∀ j, j ≠ 0 → j < t.bank.stgWords → t.stg.read j = s.stg.read j) ∧
    (∃ new, t.trace = s.trace ++ new ∧ ∀ b, .run b ∉ new)

/-- DRAIN executes (42_probe.md R171): every waiting word is received and discarded until none waits, with no handshake;
nothing else changes. The trace is R182's. That a DRAIN runs alone, and ends there with no result, is the model's choice (log
entry 8). That a working register which no rule of the operation has written keeps what it held (10_state.md R23) is the
model's choice (log entry 21). -/
def Obligations.DrainCompletes : Prop :=
  ∀ (s : State) (polls : List (Reply × Reply)) (none' : Reply) (rest : List Reply),
    s.engaged = false → pollsGood polls → drainFits s.cfg polls.length → none'.good = false →
    s.replies = pollReplies polls ++ none' :: rest →
      exec .drain s = .next { s with
        whole := false, drained := polls.length, replies := rest
        trace := s.trace ++ (pollEvents polls ++ [.rxp false]) }

/-- A drain beyond `DRAIN_LIMIT` is a `TransportError` (42_probe.md R171, decisions D6 and D12 of the spec), whose content
is a free value (log entry 7): the statement holds for every value of it. That the limit counts discarded words, the next one
being reported and not received, is read from R171 (log entry 7, DEDUCED); that a drain run alone keeps the bank when it fails
is the model's choice (log entry 8). -/
def Obligations.DrainLimitIsATransportError : Prop :=
  ∀ (s : State) (m : Nat) (polls : List (Reply × Reply)) (more : Reply) (rest : List Reply),
    s.engaged = false → s.cfg.drainLimit = some m → polls.length = m → pollsGood polls → more.good = true →
    s.replies = pollReplies polls ++ more :: rest →
      ∃ t, exec .drain s = .next t ∧ t.err.kind = .transportError ∧ t.phase = .idle ∧ t.op = .none ∧
        t.trace = s.trace ++ (pollEvents polls ++ [.rxp true]) ∧ t.replies = rest ∧ t.bank = s.bank

/-- GEOMREAD executes (42_probe.md R175): four times a handshake of `GEOM_TIMEOUT_MS` and a receive; the words go to `G0` to
`G3` in order and `GIDX` counts them; nothing is sent and nothing else changes. That a GEOMREAD runs alone, and ends there with no
validation and no result, is the model's choice (log entry 8). That a working register which no rule of the operation has
written keeps what it held (10_state.md R23) is the model's choice (log entry 21). -/
def Obligations.GeomReadCompletes : Prop :=
  ∀ (s : State) (h0 w0 h1 w1 h2 w2 h3 w3 : Reply) (rest : List Reply),
    s.engaged = false → (∀ r ∈ [h0, w0, h1, w1, h2, w2, h3, w3], r.good = true) →
    s.replies = [h0, w0, h1, w1, h2, w2, h3, w3] ++ rest →
      exec .geomRead s = .next { s with
        whole := false, gidx := 4, geom := ⟨w0.word, w1.word, w2.word, w3.word⟩, replies := rest
        trace := s.trace ++ geomEvents s.cfg ⟨w0.word, w1.word, w2.word, w3.word⟩ }

/-- What DRAIN and GEOMREAD leave unchanged, for every list of answers (42_probe.md R171, R175): every register but `GIDX` and
the geometry words (GEOMREAD only) and the error registers of a failed call, and all of `STG`; nothing is sent. Each ends idle
with all its events; or with the error of its failing call, the last one: a receive's own TransportError, verbatim
(10_state.md R46), the exceeded `DRAIN_LIMIT`'s free value (log entry 7), or the `TransportTimeout` of a handshake with a time
limit; or it waits in one of its calls, a first part of its events done. That they run alone, and that an error they then
raise leaves the bank (within PROBE R181 clears it) and delivers no result, is the model's choice (log entry 8). That a
working register which no rule of the operation has written keeps what it held (10_state.md R23) is the model's choice (log
entry 21). That an error register which the outcome does not define, where R45 to R47 leave it unspecified
(93_implementation_defined.md U5), keeps what it held is the model's choice (log entry 6). -/
def Obligations.DrainAndGeomReadFrame : Prop :=
  ∀ (s : State) (i : Instr), i = .drain ∨ i = .geomRead → s.engaged = false →
    ∃ t new, exec i s = .next t ∧ t.trace = s.trace ++ new ∧ (∀ ws r, .send ws r ∉ new) ∧
      t.bank = s.bank ∧ t.pstate = s.pstate ∧ t.tag = s.tag ∧ t.xfer = s.xfer ∧
      t.stg = s.stg ∧ t.packer = s.packer ∧ t.resp = s.resp ∧ t.cfg = s.cfg ∧ t.args = s.args ∧ t.op = .none ∧
      t.results = s.results ∧ t.err.failOffset = s.err.failOffset ∧ t.err.tag = s.err.tag ∧ t.err.raw = s.err.raw ∧
      (i = .drain → t.geom = s.geom ∧ t.gidx = s.gidx ∧
        ((t.phase = .idle ∧ t.err = s.err ∧ ∃ stale, new = drainEvents stale) ∨
         (t.phase = .idle ∧ ∃ e, DrainFails s.cfg e new ∧ t.err = s.err.record e none) ∨
         (t.phase ≠ .idle ∧ t.replies = [] ∧ t.err = s.err ∧ ∃ stale, new <+: drainEvents stale))) ∧
      (i = .geomRead →
        ((t.phase = .idle ∧ t.err = s.err ∧ t.gidx = 4 ∧ new = geomEvents s.cfg t.geom) ∨
         (t.phase = .idle ∧ ∃ e, GeomFails s.cfg t.geom t.gidx.toNat e new ∧ t.err = s.err.record e none) ∨
         (t.phase ≠ .idle ∧ t.replies = [] ∧ t.err = s.err ∧ new <+: geomEvents s.cfg t.geom)))

/-- The geometry handshake without an ack (20_memory.md R68, 42_probe.md R175, 93_implementation_defined.md U9): with a
timeout of 0 the block goes on waiting, however often it is not acknowledged; with any other the read ends in
`TransportTimeout`. That a reply without an ack to a handshake without a timeout is taken from the list of replies is the
model's choice (log entry 12), and so is it that a read run alone keeps the bank and delivers no result at its timeout (log
entry 8). A block in that wait, within a PROBE or in a read alone, is stuck in `AWAITING_ACK` (R68): no step leaves it while
no ack comes. That this is the state it waits in, and the register `PSTATE` keeps its value there, is log entry 19 (DEDUCED,
from 42_probe.md R175). That a working register which no rule of the operation has written keeps what it held (10_state.md
R23) is the model's choice (log entry 21). That an error register which the outcome does not define, where R45 to R47 leave it
unspecified (93_implementation_defined.md U5), keeps what it held is the model's choice (log entry 6). -/
def Obligations.GeometryHandshakeWaitsOrTimesOut : Prop :=
  ∀ (s : State) (nos : List Reply), s.engaged = false → (∀ r ∈ nos, r.good = false) → s.replies = nos →
    (s.cfg.geomTimeoutMs = 0 →
      exec .geomRead s = .next { s with whole := false, gidx := 0, phase := .geomWait, replies := [] }) ∧
    (∀ r rest, nos = r :: rest → s.cfg.geomTimeoutMs ≠ 0 →
      exec .geomRead s = .next { s with
        whole := false, gidx := 0, replies := rest, trace := s.trace ++ [.hs s.cfg.geomTimeoutMs false]
        err := { s.err with kind := .transportTimeout, failValid := false } }) ∧
    (∀ u : State, u.phase = .geomWait → u.cfg.geomTimeoutMs = 0 → u.resetLine = false → u.replies = nos →
      u.waitState = .awaitingAck ∧ step u = .next { u with replies := [] } ∧
        Block.State.waitState { u with replies := [] } = .awaitingAck)

/-! ### ERASE -/

/-- ERASE executes (43_erase.md R190, R193, R194): on a probed bank with the target running, one command and one only,
`erase-all` when the range spans the bank and `erase-block` with the operands verbatim and unchecked otherwise (R195);
result `OK`, and nothing else changes: the bank and the sector markers stay. That a working register which no rule of the
operation has written keeps what it held (10_state.md R23) is the model's choice (log entry 21). That an error register which
the outcome does not define, where R45 to R47 leave it unspecified (93_implementation_defined.md U5), keeps what it held is
the model's choice (log entry 6). -/
def Obligations.EraseCompletes : Prop :=
  ∀ (s : State) (first last : Word) (run : Reply) (c : CycleReplies) (rest : List Reply),
    s.engaged = false → s.stg.wf = true → s.probed = true → run.good = true → c.accepts s.cfg →
    s.replies = run :: (c.list ++ rest) →
      exec (.hostErase first last) s = .next { s with
        tag := (eraseCommand s.cfg s.bank first last).1
        stg := s.stg.writeAll s.bank.stgWords 0 (eraseCommand s.cfg s.bank first last).2
        resp := s.cfg.rspDone, pstate := .done, whole := false, args := ⟨first, last, 0, []⟩, replies := rest
        err := { s.err with kind := .none }
        results := s.results ++ [.ok]
        trace := s.trace ++ .run true :: cycleEvents (eraseCommand s.cfg s.bank first last).2 s.cfg.rspDone }

/-- Every way an ERASE can go (43_erase.md R196, 60_exceptions.md R221), for every list of answers: `OK`, one of its errors,
or it still waits; the bank, the geometry, transfer and packer registers and `FAIL_OFFSET` are as they were in each
(10_state.md R33, 43_erase.md R190), and so is `STG` beyond its three words. Each outcome has its own events (R196): `OK` and an
error past the gates those of its command cycle, whole or failing there, and the error is the one which that cycle gives
(41_protocol_cycle.md R159); an ERASE that waits has done a first part of the successful cycle's. That a working register
which no rule of the operation has written keeps what it held (10_state.md R23) is the model's choice (log entry 21). That an
error register which the outcome does not define, where R45 to R47 leave it unspecified (93_implementation_defined.md U5),
keeps what it held is the model's choice (log entry 6). -/
def Obligations.EraseOutcomesAndFrame : Prop :=
  ∀ (s : State) (first last : Word), s.engaged = false → s.stg.wf = true →
    ∃ t new, exec (.hostErase first last) s = .next t ∧ t.trace = s.trace ++ new ∧
      t.bank = s.bank ∧ t.geom = s.geom ∧ t.gidx = s.gidx ∧ t.xfer = s.xfer ∧ t.packer = s.packer ∧ t.cfg = s.cfg ∧
      t.err.failOffset = s.err.failOffset ∧ (∀ j, 3 ≤ j → t.stg.read j = s.stg.read j) ∧
      ((t.op = .none ∧ t.results = s.results ++ [.ok] ∧ t.err.kind = .none ∧ s.probed = true ∧
         new = .run true :: cycleEvents (eraseCommand s.cfg s.bank first last).2 s.cfg.rspDone) ∨
       (∃ e, t.op = .none ∧ t.results = s.results ++ [.err e none] ∧ eraseError e = true ∧ t.err.kind = e.kind ∧
         t.err = s.err.record e none ∧
         ((s.probed = false ∧ e = .bankNotProbed ∧ new = []) ∨
          (s.probed = true ∧ e = .targetNotRunning ∧ new = [.run false]) ∨
          (s.probed = true ∧ ∃ fails, new = .run true :: fails ∧
            CycleFails s.cfg (eraseCommand s.cfg s.bank first last).1 (eraseCommand s.cfg s.bank first last).2 e fails))) ∨
       (t.op = .erase ∧ t.results = s.results ∧ t.phase ≠ .idle ∧ t.replies = [] ∧ s.probed = true ∧
         new <+: .run true :: cycleEvents (eraseCommand s.cfg s.bank first last).2 s.cfg.rspDone))

/-- The two gates of ERASE and WRITE, in their order (60_exceptions.md R227, R228, 43_erase.md R191, R192, 44_write.md R201;
decision D24 of the spec): unprobed, `BankNotProbed` and no interface event at all; probed and the target not running,
`TargetNotRunning` after that one query and nothing sent. In both the bank and `STG` stay, and `PSTATE` is `IDLE`. That a
working register which no rule of the operation has written keeps what it held (10_state.md R23) is the model's choice (log
entry 21). -/
def Obligations.EraseAndWriteGates : Prop :=
  ∀ (s : State) (h : HostOp), s.engaged = false → h ≠ .probe →
    (∀ o b, h = .write o b → payloadTooLong s.cfg b = false) →
    (s.probed = false → ∃ t, exec h.instr s = .next t ∧
      t.results = s.results ++ [.err .bankNotProbed none] ∧ t.err.kind = .bankNotProbed ∧ t.op = .none ∧
      t.trace = s.trace ∧ t.replies = s.replies ∧ t.bank = s.bank ∧ t.stg = s.stg ∧ t.pstate = .idle) ∧
    (∀ r rest, s.probed = true → s.replies = r :: rest → r.good = false → ∃ t, exec h.instr s = .next t ∧
      t.results = s.results ++ [.err .targetNotRunning none] ∧ t.err.kind = .targetNotRunning ∧ t.op = .none ∧
      t.trace = s.trace ++ [.run false] ∧ t.replies = rest ∧ t.bank = s.bank ∧ t.stg = s.stg ∧ t.pstate = .idle)

/-! ### WRITE -/

/-- The empty WRITE (44_write.md R202): on a probed bank with the target running, nothing is sent and the result is `OK`. That
a working register which no rule of the operation has written keeps what it held (10_state.md R23) is the model's choice (log
entry 21). That an error register which the outcome does not define, where R45 to R47 leave it unspecified
(93_implementation_defined.md U5), keeps what it held is the model's choice (log entry 6). -/
def Obligations.EmptyWriteSendsNothing : Prop :=
  ∀ (s : State) (offset : Word) (run : Reply) (rest : List Reply),
    s.engaged = false → s.probed = true → run.good = true → s.replies = run :: rest →
      exec (.hostWrite offset []) s = .next { s with
        xfer := { s.xfer with curOffset := offset, remaining := 0, payPos := 0 }
        pstate := .idle, whole := false, args := ⟨0, 0, offset, []⟩, replies := rest
        err := { s.err with kind := .none }
        results := s.results ++ [.ok]
        trace := s.trace ++ [.run true] }

/-- WRITE executes (44_write.md R200, R203 to R208): on a sound bank with the target running and every chunk acknowledged, it
sends one `flash-block` packet for each chunk of the chunk sequence, in order, each by one command cycle, and the result is
`OK`; `CUR_OFFSET` and `PAY_POS` have advanced by the payload's length and nothing remains. The bank stays, and so does every
word of `STG` at or beyond the end of every chunk's packet (R205, R207); no register but those named changes. That a working
register which no rule of the operation has written keeps what it held (10_state.md R23) is the model's choice (log entry 21).
That an error register which the outcome does not define, where R45 to R47 leave it unspecified (93_implementation_defined.md
U5), keeps what it held is the model's choice (log entry 6). -/
def Obligations.WriteCompletes : Prop :=
  ∀ (s : State) (offset : Word) (payload : List Byte) (run : Reply) (cycles : List CycleReplies) (rest : List Reply),
    s.engaged = false → s.stg.wf = true → BankSound s.bank → payload ≠ [] → payloadTooLong s.cfg payload = false →
    run.good = true → cycles.length = (chunksOf s.bank payload offset).length → (∀ c ∈ cycles, c.accepts s.cfg) →
    s.replies = run :: (cycles.flatMap CycleReplies.list ++ rest) →
      ∃ t, exec (.hostWrite offset payload) s = .next t ∧
        t = { s with
          xfer := ⟨offset + BitVec.ofNat 32 payload.length, 0, t.xfer.runLen, BitVec.ofNat 32 payload.length⟩
          stg := t.stg, packer := t.packer, resp := s.cfg.rspDone, pstate := .done, tag := .flashBlock
          whole := false, args := ⟨0, 0, offset, payload⟩, replies := rest
          err := { s.err with kind := .none }
          results := s.results ++ [.ok]
          trace := s.trace ++ .run true :: chunkEvents s.cfg s.bank (chunksOf s.bank payload offset) } ∧
        (∀ j, BeyondPackets s.cfg s.bank (chunksOf s.bank payload offset) j → t.stg.read j = s.stg.read j)

/-- The chunk sequence law (44_write.md R206): the chunks cover the payload exactly once and in order, starting at the
WRITE's offset, each starting where the one before it ended; each has at least one byte, and none has
`(start mod BUF_ALIGN) + length > BUF_LEN`. Every chunk but the first starts at a multiple of `BUF_ALIGN`, where no offset wraps
(95_test_vectors.md P7, from R203). -/
def Obligations.ChunkSequenceCoversThePayload : Prop :=
  ∀ (b : Bank) (payload : List Byte) (offset : Word), BankSound b → payload.length < 2 ^ 32 →
    ((chunksOf b payload offset).flatMap fun ch =>
      ch.2.take (b.chunkLen ch.1 (BitVec.ofNat 32 ch.2.length)).toNat) = payload ∧
    (payload ≠ [] → (chunksOf b payload offset).head? = some (offset, payload)) ∧
    (∀ m ch next, (chunksOf b payload offset)[m]? = some ch → (chunksOf b payload offset)[m + 1]? = some next →
      next.1 = ch.1 + b.chunkLen ch.1 (BitVec.ofNat 32 ch.2.length)) ∧
    (∀ ch ∈ chunksOf b payload offset,
      1 ≤ (b.chunkLen ch.1 (BitVec.ofNat 32 ch.2.length)).toNat ∧
      (ch.1 % b.bufAlign).toNat + (b.chunkLen ch.1 (BitVec.ofNat 32 ch.2.length)).toNat ≤ b.bufLen.toNat) ∧
    (offset.toNat + payload.length ≤ 2 ^ 32 → ∀ m ch, (chunksOf b payload offset)[m + 1]? = some ch →
      ch.1 % b.bufAlign = 0)

/-- The packet of a chunk (44_write.md R203 to R207, 30_encoding.md R98, R99, R108): at the head of WRITE's loop with bytes
remaining, the block is about to send exactly the closed form's packet, which fits `STG`, decodes as one `flash-block` with
nothing over, and has a run length from 1 to `BUF_LEN` in its low half. -/
def Obligations.ChunkPacketIsOneLegalFlashBlock : Prop :=
  ∀ s : State, s.cfg.wf → s.stg.wf = true → BankSound s.bank → Progress s.args s.xfer → s.phase = .chunk →
    s.xfer.remaining ≠ 0 → ∃ t n, tick s = some t ∧ t.phase = .send n ∧ t.tag = .flashBlock ∧ t.pstate = .idle ∧
      n ≤ s.bank.bufLen.toNat / 4 + 3 ∧
      t.stg.words 0 n = chunkPacket s.cfg s.bank (s.args.payload.drop s.xfer.payPos.toNat) s.xfer.curOffset ∧
      ∃ runlen data checksum,
        decodeCommand s.cfg s.bank.bufAlign (t.stg.words 0 n) =
          .ok (.wireFlashBlock runlen s.xfer.curOffset data checksum, []) ∧
        1 ≤ runlen.toNat ∧ runlen.toNat ≤ s.bank.bufLen.toNat ∧ runlen.toNat = t.xfer.runLen.toNat ∧
        checksum = checksumOf s.cfg.chksInit data

/-- A chunk's failure ends the WRITE there (44_write.md R209, 60_exceptions.md R236, R237): for every list of answers, if the
result is an error past the two gates (BankNotProbed is the unprobed bank's, TargetNotRunning the other), it carries `CUR_OFFSET`,
the offset of the first chunk that was not acknowledged, which `FAIL_OFFSET` holds; `PSTATE` is `FAILED`; the events are those of
the chunks before it, every one acknowledged with the sentinel, then those of its own failing cycle, and none after; and `PAY_POS`
is where its payload starts, so that exactly the payload before it has been acknowledged. -/
def Obligations.WriteFailureReportsItsOffset : Prop :=
  ∀ (s t : State) (offset : Word) (payload : List Byte) (e : ErrInfo) (o : Option Word),
    s.engaged = false → s.stg.wf = true → BankSound s.bank → payloadTooLong s.cfg payload = false →
    exec (.hostWrite offset payload) s = .next t → t.results = s.results ++ [.err e o] → e ≠ .targetNotRunning →
      o = some t.xfer.curOffset ∧ t.err.failOffset = t.xfer.curOffset ∧ t.err.failValid = true ∧
      t.pstate = .failed ∧ t.xfer.curOffset = offset + t.xfer.payPos ∧
      t.xfer.payPos.toNat + t.xfer.remaining.toNat = payload.length ∧ t.xfer.remaining ≠ 0 ∧
      ∃ (m : Nat) (fails : List Event),
        (chunksOf s.bank payload offset)[m]? = some (t.xfer.curOffset, payload.drop t.xfer.payPos.toNat) ∧
        CycleFails s.cfg .flashBlock
          (chunkPacket s.cfg s.bank (payload.drop t.xfer.payPos.toNat) t.xfer.curOffset) e fails ∧
        t.trace = s.trace ++ .run true :: (chunkEvents s.cfg s.bank ((chunksOf s.bank payload offset).take m) ++ fails)

/-- Every way a WRITE can go (44_write.md R200, 60_exceptions.md R221), for every list of answers: `OK`, one of its errors,
or it still waits; an error carries no offset at the two gates and `CUR_OFFSET`, the failing chunk's, past them (10_state.md R47).
The bank and the geometry registers are as they were in each (R33), and so is every word from `STG_WORDS` on (R41, R207). On a
sound bank every word of `STG` at or beyond the end of every chunk's packet stays too (R205), and the events say which outcome it is
(R208, 60_exceptions.md R237): `OK` follows the acknowledged cycle of every chunk, each with the sentinel, `TargetNotRunning` the
target query alone; a WRITE that waits has done a first part of the successful one's. The other errors are
`WriteFailureReportsItsOffset`'s. That a working register which no rule of the operation has written keeps what it held
(10_state.md R23) is the model's choice (log entry 21). -/
def Obligations.WriteOutcomesAndFrame : Prop :=
  ∀ (s : State) (offset : Word) (payload : List Byte), s.engaged = false → s.stg.wf = true →
    payloadTooLong s.cfg payload = false →
    ∃ t new, exec (.hostWrite offset payload) s = .next t ∧ t.trace = s.trace ++ new ∧
      t.bank = s.bank ∧ t.geom = s.geom ∧ t.gidx = s.gidx ∧ t.cfg = s.cfg ∧ t.packed = s.packed ∧
      (∀ j, s.bank.stgWords ≤ j → t.stg.read j = s.stg.read j) ∧
      (BankSound s.bank →
        (∀ j, BeyondPackets s.cfg s.bank (chunksOf s.bank payload offset) j → t.stg.read j = s.stg.read j) ∧
        (t.results = s.results ++ [.ok] →
          new = .run true :: chunkEvents s.cfg s.bank (chunksOf s.bank payload offset)) ∧
        (∀ o, t.results = s.results ++ [.err .targetNotRunning o] → new = [.run false]) ∧
        (t.results = s.results →
          new <+: .run true :: chunkEvents s.cfg s.bank (chunksOf s.bank payload offset))) ∧
      ((t.op = .none ∧ t.results = s.results ++ [.ok] ∧ t.err.kind = .none) ∨
       (∃ e o, t.op = .none ∧ t.results = s.results ++ [.err e o] ∧ writeError e = true ∧ t.err.kind = e.kind ∧
         o = if e = .bankNotProbed ∨ e = .targetNotRunning then none else some t.xfer.curOffset) ∨
       (t.op = .write ∧ t.results = s.results ∧ t.phase ≠ .idle ∧ t.replies = []))

/-! ### What is in flight -/

/-- What a step does with something in flight (20_memory.md R81, 60_exceptions.md R236, 10_state.md R33, R41, R48), whatever
has been answered, from every state whose sequencing registers agree: it goes on waiting, with the bank, the error registers
and the results as they were; or it ends. An operation ends with exactly one result, `OK` or an error of its kinds, which the
error registers record, with the failing chunk's offset past WRITE's gate and none elsewhere; ERASE and WRITE leave the bank.
Which of them it is, its last event says (`OkSeen`, `ErrorSeen`; R237), a TransportError being that
event's, verbatim, or, beyond `DRAIN_LIMIT`, a free value (log entry 7). A part running alone ends with none (log entry 8).
PROBE writes no word of `STG` but word 0, ERASE none but its three, WRITE none at or beyond the packets it has still to build
and none from `STG_WORDS` on, a part running alone none at all; the geometry words are PROBE's or a GEOMREAD's, the transfer
and packer registers WRITE's. That a working register which no rule of the operation has written keeps what it held
(10_state.md R23) is the model's choice (log entry 21). That an error register which the outcome does not define, where R45 to
R47 leave it unspecified (93_implementation_defined.md U5), keeps what it held is the model's choice (log entry 6). -/
def Obligations.ResumedOperationsEndOrWait : Prop :=
  ∀ s t : State, PhaseOk s → s.stg.wf = true → s.resetLine = false → s.phase ≠ .idle → step s = .next t →
    ∃ new, t.trace = s.trace ++ new ∧ (t.phase = .idle → s.phase.internal = false → new ≠ []) ∧
    t.cfg = s.cfg ∧ t.args = s.args ∧ t.calls = s.calls ∧ t.packed = s.packed ∧
    (s.op ≠ .write → t.xfer = s.xfer ∧ t.packer = s.packer) ∧
    (s.op = .erase ∨ s.op = .write → t.geom = s.geom ∧ t.gidx = s.gidx) ∧
    (s.op = .none → t.stg = s.stg) ∧
    (s.op = .probe → ∀ j, j ≠ 0 → j < t.bank.stgWords → t.stg.read j = s.stg.read j) ∧
    (s.op = .erase → ∀ j, 3 ≤ j → t.stg.read j = s.stg.read j) ∧
    (s.op = .write → ∀ j, s.bank.stgWords ≤ j ∨
      (BankSound s.bank ∧ BeyondPackets s.cfg s.bank s.chunksToBuild j) → t.stg.read j = s.stg.read j) ∧
    ((t.phase ≠ .idle ∧ t.op = s.op ∧ t.bank = s.bank ∧ t.err = s.err ∧ t.results = s.results ∧ t.replies = []) ∨
     (t.phase = .idle ∧ t.op = .none ∧ s.op = .none ∧ t.bank = s.bank ∧ t.results = s.results ∧
       (t.err = s.err ∨ ∃ e, t.err = s.err.record e none)) ∨
     (t.phase = .idle ∧ t.op = .none ∧ s.op ≠ .none ∧ (s.op ≠ .probe → t.bank = s.bank) ∧
       t.results = s.results ++ [.ok] ∧ t.err = { s.err with kind := .none } ∧ OkSeen s.op t new) ∨
     (t.phase = .idle ∧ t.op = .none ∧ s.op ≠ .none ∧ (s.op ≠ .probe → t.bank = s.bank) ∧
       ∃ e o, t.results = s.results ++ [.err e o] ∧ t.err = s.err.record e o ∧ opError s.op e = true ∧
         ErrorSeen t new e ∧ o = if s.op = .write ∧ e ≠ .targetNotRunning then some t.xfer.curOffset else none))

/-- A TransportError is only copied, and its type is a parameter (10_state.md R46): over any two types, and any map from the
errors of the one to those of the other, a tick, and each of the 13 meanings, does the same, under that map of
`ERR_TRANSPORT`, the environment's answers, the events and the results; and so does a step, at its own type. The errors that
the environment does not give are kept by the map: the free value of an exceeded `DRAIN_LIMIT` (log entry 7), and, where the
step is a reset, what reset leaves in `ERR_TRANSPORT` (log entry 2). -/
def Obligations.TransportErrorsAreOnlyCopied : Prop :=
  (∀ (α β : Type) [Inhabited α] [Inhabited β] (f : TransportErr α → TransportErr β) (s : Block.State α),
    (∀ n, f (Config.drainLimitError n) = Config.drainLimitError n) →
    tick (s.relabel f) = (tick s).map (Block.State.relabel f) ∧
    execWireProbe (s.relabel f) = relabelOutcome f (execWireProbe s) ∧
    execWireEraseAll (s.relabel f) = relabelOutcome f (execWireEraseAll s) ∧
    (∀ first last, execWireEraseBlock first last (s.relabel f) = relabelOutcome f (execWireEraseBlock first last s)) ∧
    (∀ runlen offset data checksum, execWireFlashBlock runlen offset data checksum (s.relabel f) =
      relabelOutcome f (execWireFlashBlock runlen offset data checksum s)) ∧
    (∀ code, execRespDone code (s.relabel f) = relabelOutcome f (execRespDone code s)) ∧
    (∀ g0 g1 g2 g3, execRespGeometry g0 g1 g2 g3 (s.relabel f) = relabelOutcome f (execRespGeometry g0 g1 g2 g3 s)) ∧
    execHostProbe (s.relabel f) = relabelOutcome f (execHostProbe s) ∧
    (∀ first last, execHostErase first last (s.relabel f) = relabelOutcome f (execHostErase first last s)) ∧
    (∀ offset payload, execHostWrite offset payload (s.relabel f) = relabelOutcome f (execHostWrite offset payload s)) ∧
    (∀ payload o, execPack payload o (s.relabel f) = relabelOutcome f (execPack payload o s)) ∧
    (∀ tag packet, execCycle tag packet (s.relabel f) = relabelOutcome f (execCycle tag packet s)) ∧
    execDrain (s.relabel f) = relabelOutcome f (execDrain s) ∧
    execGeomRead (s.relabel f) = relabelOutcome f (execGeomRead s)) ∧
  (∀ (f : TransportErr TransportValue → TransportErr TransportValue) (s : State),
    (∀ n, f (Config.drainLimitError n) = Config.drainLimitError n) →
    (s.resetLine = true → f State.reset.err.transport = State.reset.err.transport) →
    step (s.relabel f) = relabelOutcome f (step s))

/-! ### Errors, the sector table, accessors -/

/-- The error entry (60_exceptions.md R236): the bank is cleared in a PROBE; inside a command cycle of a WRITE, `FAIL_OFFSET`
takes `CUR_OFFSET`; the kind and its information are recorded; `PSTATE` is `FAILED` inside a command cycle and kept outside;
`OP` is `NONE`; the result is delivered; and no interface call is made, nor any other register written. Every word that `STG`
has after it is as before; that it is sized from `BUF_LEN` at once, so that a cleared bank leaves three words (10_state.md R41), is
log entry 3 (DEDUCED). That an error register which the outcome does not define, where R45 to R47 leave it unspecified
(93_implementation_defined.md U5), keeps what it held is the model's choice (log entry 6). -/
def Obligations.ErrorEntry : Prop :=
  ∀ (s : State) (inCycle : Bool) (e : ErrInfo), s.op ≠ .none →
    let t := raiseError inCycle e s
    (s.op = .probe → t.bank = Bank.unprobed) ∧
    (s.op ≠ .probe → e ≠ .bankInvalid → t.bank = s.bank ∧ t.stg = s.stg) ∧
    (∀ j, j < t.bank.stgWords → t.stg.read j = s.stg.read j) ∧
    (inCycle = true → s.op = .write → t.err.failOffset = s.xfer.curOffset) ∧
    (inCycle = false ∨ s.op ≠ .write → t.err.failOffset = s.err.failOffset) ∧
    t.err.kind = e.kind ∧
    (∀ g w, e = .protocolFailure g w → t.err.tag = g ∧ t.err.raw = w) ∧
    (∀ x, e = .transportError x → t.err.transport = x) ∧
    t.pstate = (if inCycle then .failed else s.pstate) ∧ t.op = .none ∧
    (∃ o, t.results = s.results ++ [.err e o]) ∧
    t = { s with
      bank := t.bank, stg := t.stg, err := t.err, pstate := t.pstate, results := t.results, op := .none, whole := false,
      phase := .idle }

/-- After an error the block accepts the next operation exactly as after a success (60_exceptions.md R238, 30_encoding.md
R91): for whatever `PSTATE` and error registers an earlier operation left, a host operation does the same, every other
register included. The error registers it leaves agree in all that is defined of them (10_state.md R44 to R47); where only the
error kind and `PSTATE` differ before it, nothing at all does after it. -/
def Obligations.ErrorsDoNotOutlastTheNextAcceptance : Prop :=
  ∀ (s : State) (h : HostOp) (e : ErrRegs) (q : PState), s.engaged = false →
    exec h.instr { s with err := { s.err with kind := e.kind }, pstate := q } = exec h.instr s ∧
    (∀ r, exec h.instr s = .refused r → exec h.instr { s with err := e, pstate := q } = .refused r) ∧
    (∀ t, exec h.instr s = .next t →
      ∃ e', exec h.instr { s with err := e, pstate := q } = .next { t with err := e' } ∧ e'.Agree t.err)

/-- The sector table of a sound bank (10_state.md R30, R32): sectors of equal size, the first at offset 0, each starting where
the one before it ends, the last ending at `TOTAL_SIZE`, none at or beyond `SECT_COUNT`, all markers `unknown` (R31). -/
def Obligations.SectorsPartitionTheBank : Prop :=
  ∀ b : Bank, BankSound b →
    (∀ i, b.sectCount.toNat ≤ i → b.sect i = none) ∧
    (∀ i, i < b.sectCount.toNat → ∃ r, b.sect i = some r ∧
      r.size.toNat = b.totalSize.toNat / b.sectCount.toNat ∧
      r.offset.toNat = i * r.size.toNat ∧
      r.erased = .unknown ∧ r.guarded = .unknown ∧
      (i + 1 = b.sectCount.toNat → r.offset.toNat + r.size.toNat = b.totalSize.toNat))

/-- `PROBED` (10_state.md R34): in a state whose bank is all zero or sound, D0's two tests for "probed" and the flag agree. -/
def Obligations.ProbedTestsAgree : Prop :=
  ∀ b : Bank, BankOk b →
    (b.probed = true ↔ BankSound b) ∧ (b.probed = true ↔ 0 < b.sectCount.toNat) ∧
    (b.probed = true ↔ b.bufLen ≠ 0 ∧ b.bufAlign ≠ 0)

/-- The accessors (10_state.md R35, R45 to R47, 92_eei_decisions.md D10): a read gives the register where the operation in
progress cannot write it, for the information registers where the last error defines them. The bank is written in a PROBE only
(R33), so its registers are read during an ERASE and a WRITE too; `FAIL_OFFSET` is written in a WRITE only (R47); the other
error registers in every operation, so they are read when none is in progress. What a read gives elsewhere is a free value,
and nothing is said of it (93_implementation_defined.md U4, U5; log entry 6). -/
def Obligations.AccessorsReadTheRegisters : Prop :=
  ∀ (s : State) (n : Nat),
    (s.op ≠ .probe →
      access n .baseAddr s = .word s.bank.baseAddr ∧ access n .totalSize s = .word s.bank.totalSize ∧
      access n .sectCount s = .word s.bank.sectCount ∧ access n .bufLen s = .word s.bank.bufLen ∧
      access n .bufAlign s = .word s.bank.bufAlign ∧ access n .probed s = .flag s.probed ∧
      ∀ i, access n (.sect i) s = .sector (s.sect i)) ∧
    (s.busy = false →
      access n .errKind s = .kind s.err.kind ∧
      (s.err.kind = .protocolFailure → access n .errTag s = .tag s.err.tag ∧ access n .errRaw s = .word s.err.raw) ∧
      (s.err.kind = .transportError → access n .errTransport s = .transport s.err.transport)) ∧
    (s.op ≠ .write → s.err.failValid = true → s.err.kind ≠ .none → access n .failOffset s = .word s.err.failOffset)

/-- A payload that no u32 counts, or above `MAX_PAYLOAD` where it is set, is no request (20_memory.md R61, 00_scope.md R11);
that it is refused under this name is the model's choice (log entry 10). -/
def Obligations.OverlongPayloadIsRefused : Prop :=
  ∀ (s : State) (offset : Word) (payload : List Byte), s.engaged = false →
    (2 ^ 32 ≤ payload.length ∨ ∃ m, s.cfg.maxPayload = some m ∧ m < payload.length) →
      exec (.hostWrite offset payload) s = .refused .payloadTooLong
end

