-- ==== Sys2Proof/Laws/Memory.lean ====
section
/-! SUPPORT. The staging buffer: read after write, every operation keeps the canonical form and the size, and what a
written packet reads back as. -/

namespace Sys2Proof.Machine

/-- The canonical form as a proposition. -/
theorem memory_wf_iff (m : Memory) :
    m.wf = true ↔ m.Pairwise (fun a b => a.1 < b.1) ∧ ∀ a ∈ m, a.2 ≠ stgDefault := by
  simp [Memory.wf]

/-- Every index after an entry is set was there before or is the written one. -/
theorem memory_set_keys {m : Memory} {k : Nat} {w : Word} {a : Nat × Word} (h : a ∈ m.set k w) :
    a ∈ m ∨ a = (k, w) := by
  induction m with
  | nil =>
    rw [Memory.set] at h
    split at h <;> simp_all
  | cons c m ih =>
    obtain ⟨b, v⟩ := c
    rw [Memory.set] at h
    split at h
    · split at h
      · exact .inl h
      · rcases List.mem_cons.mp h with h | h
        · exact .inr h
        · exact .inl h
    · split at h
      · split at h
        · exact .inl (List.mem_cons_of_mem _ h)
        · rcases List.mem_cons.mp h with h | h
          · exact .inr h
          · exact .inl (List.mem_cons_of_mem _ h)
      · rcases List.mem_cons.mp h with h | h
        · exact .inl (by simp [h])
        · rcases ih h with h | h
          · exact .inl (List.mem_cons_of_mem _ h)
          · exact .inr h

/-- Setting an entry keeps the canonical form. -/
theorem memory_set_wf {m : Memory} (k : Nat) (w : Word) (h : m.wf = true) : (m.set k w).wf = true := by
  rw [memory_wf_iff] at h ⊢
  induction m with
  | nil =>
    rw [Memory.set]
    split <;> simp_all
  | cons c m ih =>
    obtain ⟨b, v⟩ := c
    obtain ⟨hp, hd⟩ := h
    rw [List.pairwise_cons] at hp
    have ih' := ih ⟨hp.2, fun a ha => hd a (List.mem_cons_of_mem _ ha)⟩
    rw [Memory.set]
    split
    · split
      · exact ⟨List.pairwise_cons.mpr hp, hd⟩
      · rename_i hkb hw
        refine ⟨List.pairwise_cons.mpr ⟨?_, List.pairwise_cons.mpr hp⟩, ?_⟩
        · intro a ha
          rcases List.mem_cons.mp ha with rfl | ha
          · exact hkb
          · exact Nat.lt_trans hkb (hp.1 a ha)
        · intro a ha
          rcases List.mem_cons.mp ha with rfl | ha
          · exact hw
          · exact hd a ha
    · split
      · rename_i hkb
        split
        · exact ⟨hp.2, fun a ha => hd a (List.mem_cons_of_mem _ ha)⟩
        · rename_i hw
          refine ⟨List.pairwise_cons.mpr ⟨?_, hp.2⟩, ?_⟩
          · intro a ha
            exact hkb ▸ hp.1 a ha
          · intro a ha
            rcases List.mem_cons.mp ha with rfl | ha
            · exact hw
            · exact hd a (List.mem_cons_of_mem _ ha)
      · rename_i hlt hne
        refine ⟨List.pairwise_cons.mpr ⟨?_, ih'.1⟩, ?_⟩
        · intro a ha
          rcases memory_set_keys ha with ha | rfl
          · exact hp.1 a ha
          · show b < k
            omega
        · intro a ha
          rcases List.mem_cons.mp ha with rfl | ha
          · exact hd _ (by simp)
          · exact ih'.2 a ha

/-- An index below every listed one reads as the default. -/
theorem memory_read_below {m : Memory} {k : Nat} (h : ∀ a ∈ m, k < a.1) : m.read k = stgDefault := by
  induction m with
  | nil => rfl
  | cons c m ih =>
    obtain ⟨b, v⟩ := c
    have hb : k < b := h (b, v) (by simp)
    rw [Memory.read, if_neg (by omega)]
    exact ih fun a ha => h a (List.mem_cons_of_mem _ ha)

/-- Reading after an entry is set, on a canonical buffer. -/
theorem memory_read_set {m : Memory} (h : m.wf = true) (k j : Nat) (w : Word) :
    (m.set k w).read j = if j = k then w else m.read j := by
  rw [memory_wf_iff] at h
  induction m with
  | nil =>
    rw [Memory.set]
    split
    · split <;> simp_all [Memory.read]
    · by_cases hj : j = k
      · simp [Memory.read, hj]
      · simp [Memory.read, hj, Ne.symm hj]
  | cons c m ih =>
    obtain ⟨b, v⟩ := c
    obtain ⟨hp, hd⟩ := h
    rw [List.pairwise_cons] at hp
    have ih' := ih ⟨hp.2, fun a ha => hd a (List.mem_cons_of_mem _ ha)⟩
    rw [Memory.set]
    split
    · rename_i hkb
      have hk : Memory.read ((b, v) :: m) k = stgDefault := by
        refine memory_read_below fun a ha => ?_
        rcases List.mem_cons.mp ha with rfl | ha
        · exact hkb
        · exact Nat.lt_trans hkb (hp.1 a ha)
      split
      · rename_i hw
        by_cases hj : j = k
        · rw [if_pos hj, hj, hk, hw]
        · rw [if_neg hj]
      · by_cases hj : j = k
        · rw [if_pos hj, Memory.read, if_pos hj.symm]
        · rw [if_neg hj, Memory.read, if_neg (Ne.symm hj)]
    · split
      · rename_i hkb
        have hk : Memory.read m k = stgDefault := memory_read_below fun a ha => hkb ▸ hp.1 a ha
        split
        · rename_i hw
          by_cases hj : j = k
          · rw [if_pos hj, hj, hk, hw]
          · rw [if_neg hj, Memory.read, if_neg (by omega)]
        · by_cases hj : j = k
          · rw [if_pos hj, Memory.read, if_pos hj.symm]
          · rw [if_neg hj, Memory.read, Memory.read, if_neg (Ne.symm hj), if_neg (by omega)]
      · rename_i hlt hne
        rw [Memory.read, ih', Memory.read]
        by_cases hj : j = k
        · rw [if_pos hj, if_pos hj, if_neg (by omega)]
        · rw [if_neg hj, if_neg hj]

/-! ### `STG[k] <- w` in a buffer of a size -/

/-- A write keeps the canonical form. -/
theorem memory_write_wf {m : Memory} (size k : Nat) (w : Word) (h : m.wf = true) : (m.write size k w).wf = true := by
  unfold Memory.write
  split
  · exact memory_set_wf k w h
  · exact h

/-- Read after write: the written word where there is one, and every other word as before. -/
theorem memory_read_write {m : Memory} (h : m.wf = true) (size k j : Nat) (w : Word) :
    (m.write size k w).read j = if j = k ∧ k < size then w else m.read j := by
  unfold Memory.write
  by_cases hk : k < size
  · rw [if_pos hk, memory_read_set h]
    simp [hk]
  · rw [if_neg hk, if_neg (by simp [hk])]

/-- A write inside the buffer sets the word. -/
theorem memory_write_inside {size k : Nat} (h : k < size) (m : Memory) (w : Word) : m.write size k w = m.set k w := if_pos h

/-- Within a size, as a proposition. -/
theorem memory_within_iff (size : Nat) (m : Memory) : m.within size = true ↔ ∀ a ∈ m, a.1 < size := by
  simp [Memory.within]

/-- A write stays within the buffer. -/
theorem memory_write_within {size : Nat} {m : Memory} (k : Nat) (w : Word) (h : m.within size = true) :
    (m.write size k w).within size = true := by
  rw [memory_within_iff] at h ⊢
  unfold Memory.write
  split
  · intro a ha
    rcases memory_set_keys ha with ha | rfl
    · exact h a ha
    · assumption
  · exact h

/-- A resized buffer is within its size. -/
theorem memory_fit_within (size : Nat) (m : Memory) : (m.fit size).within size = true := by
  rw [memory_within_iff]
  intro a ha
  simpa using (List.mem_filter.mp ha).2

/-- Resizing keeps the canonical form. -/
theorem memory_fit_wf (size : Nat) {m : Memory} (h : m.wf = true) : (m.fit size).wf = true := by
  rw [memory_wf_iff] at h ⊢
  exact ⟨h.1.filter _, fun a ha => h.2 a (List.mem_filter.mp ha).1⟩

/-- Every word a resized buffer has is as before. -/
theorem memory_read_fit (size : Nat) (m : Memory) (j : Nat) :
    (m.fit size).read j = if j < size then m.read j else stgDefault := by
  induction m with
  | nil => simp [Memory.fit, Memory.read]
  | cons c m ih =>
    obtain ⟨b, v⟩ := c
    unfold Memory.fit at ih ⊢
    rw [List.filter_cons]
    by_cases hb : b < size
    · rw [if_pos (by simpa using hb), Memory.read, Memory.read, ih]
      by_cases hbj : b = j
      · rw [if_pos hbj, if_pos hbj, if_pos (hbj ▸ hb)]
      · rw [if_neg hbj, if_neg hbj]
    · rw [if_neg (by simpa using hb), ih, Memory.read]
      by_cases hj : j < size
      · rw [if_pos hj, if_pos hj, if_neg (by omega)]
      · rw [if_neg hj, if_neg hj]

/-- A buffer within the new size keeps all its words. -/
theorem memory_fit_eq {size : Nat} {m : Memory} (h : m.within size = true) : m.fit size = m := by
  rw [memory_within_iff] at h
  exact List.filter_eq_self.mpr fun a ha => by simpa using h a ha

/-! ### Runs of words -/

/-- Writing a run of words keeps the canonical form. -/
theorem memory_writeAll_wf (ws : List Word) {m : Memory} (size k : Nat) (h : m.wf = true) :
    (m.writeAll size k ws).wf = true := by
  induction ws generalizing m k with
  | nil => exact h
  | cons w ws ih => exact ih (k + 1) (memory_write_wf size k w h)

/-- Writing a run of words stays within the buffer. -/
theorem memory_writeAll_within (ws : List Word) {size : Nat} {m : Memory} (k : Nat) (h : m.within size = true) :
    (m.writeAll size k ws).within size = true := by
  induction ws generalizing m k with
  | nil => exact h
  | cons w ws ih => exact ih (k + 1) (memory_write_within k w h)

/-- Reading after writing a run of words. -/
theorem memory_read_writeAll (ws : List Word) {m : Memory} (h : m.wf = true) (size k j : Nat) :
    (m.writeAll size k ws).read j = if k ≤ j ∧ j < size then (ws[j - k]?).getD (m.read j) else m.read j := by
  induction ws generalizing m k with
  | nil => simp [Memory.writeAll]
  | cons w ws ih =>
    rw [Memory.writeAll, ih (memory_write_wf size k w h), memory_read_write h]
    by_cases hs : j < size
    · by_cases hj : j = k
      · subst hj
        simp [hs]
      · by_cases hle : k + 1 ≤ j
        · have hsub : j - k = (j - (k + 1)) + 1 := by omega
          have hkj : k ≤ j := by omega
          simp [hle, hkj, hj, hs, hsub]
        · have hkj : ¬ k ≤ j := by omega
          simp [hle, hkj, hj]
    · have hjk : ¬ (j = k ∧ k < size) := by omega
      simp [hs, hjk]

/-- A run of words that fits reads back as it was written. -/
theorem memory_words_writeAll (ws : List Word) {m : Memory} (h : m.wf = true) {size k : Nat} (hfit : k + ws.length ≤ size) :
    (m.writeAll size k ws).words k ws.length = ws := by
  have key : ∀ n j, (∀ i, i < n → (m.writeAll size k ws).read (k + j + i) = (ws.drop j)[i]?.getD 0) →
      (m.writeAll size k ws).words (k + j) n = ((List.range n).map fun i => (ws.drop j)[i]?.getD 0) := by
    intro n
    induction n with
    | zero => intro j _; rfl
    | succ n ih =>
      intro j hj
      rw [Memory.words, List.range_succ_eq_map, List.map_cons, List.map_map]
      congr 1
      · have := hj 0 (by omega)
        simpa using this
      · have step := ih (j + 1) fun i hi => by
          have := hj (i + 1) (by omega)
          rw [show k + (j + 1) + i = k + j + (i + 1) by omega, this]
          simp [List.getElem?_drop, Nat.add_assoc, Nat.add_comm 1 i]
        rw [show k + j + 1 = k + (j + 1) by omega, step]
        apply List.map_congr_left
        intro i _
        simp [List.getElem?_drop, Nat.add_assoc, Nat.add_comm 1 i]
  have := key ws.length 0 fun i hi => by
    rw [memory_read_writeAll ws h, if_pos (by omega)]
    simp [List.getElem?_eq_getElem hi]
  rw [Nat.add_zero] at this
  rw [this]
  apply List.ext_getElem
  · simp
  · intro i h1 h2
    simp [List.getElem?_eq_getElem h2]

/-- One word written: the words of a run that does not hold it are as before. -/
theorem memory_words_write_outside {m : Memory} (h : m.wf = true) (size k j n : Nat) (w : Word)
    (hk : k < j ∨ j + n ≤ k) : (m.write size k w).words j n = m.words j n := by
  induction n generalizing j with
  | zero => rfl
  | succ n ih =>
    rw [Memory.words, Memory.words, memory_read_write h, if_neg (by omega), ih (j + 1) (by omega)]

end Sys2Proof.Machine
end

