-- ==== Sys2Proof/Laws/State.lean ====
section
/-! SUPPORT. One lemma per field per update, true by rfl: later proofs never unfold a record update. -/

namespace Sys2Proof.Machine

variable {τ : Type}

/-! ### `State.log` -/

@[simp] theorem log_bank (e : Block.Event τ) (s : Block.State τ) : (s.log e).bank = s.bank := rfl
@[simp] theorem log_op (e : Block.Event τ) (s : Block.State τ) : (s.log e).op = s.op := rfl
@[simp] theorem log_pstate (e : Block.Event τ) (s : Block.State τ) : (s.log e).pstate = s.pstate := rfl
@[simp] theorem log_tag (e : Block.Event τ) (s : Block.State τ) : (s.log e).tag = s.tag := rfl
@[simp] theorem log_gidx (e : Block.Event τ) (s : Block.State τ) : (s.log e).gidx = s.gidx := rfl
@[simp] theorem log_geom (e : Block.Event τ) (s : Block.State τ) : (s.log e).geom = s.geom := rfl
@[simp] theorem log_xfer (e : Block.Event τ) (s : Block.State τ) : (s.log e).xfer = s.xfer := rfl
@[simp] theorem log_stg (e : Block.Event τ) (s : Block.State τ) : (s.log e).stg = s.stg := rfl
@[simp] theorem log_packer (e : Block.Event τ) (s : Block.State τ) : (s.log e).packer = s.packer := rfl
@[simp] theorem log_packed (e : Block.Event τ) (s : Block.State τ) : (s.log e).packed = s.packed := rfl
@[simp] theorem log_resp (e : Block.Event τ) (s : Block.State τ) : (s.log e).resp = s.resp := rfl
@[simp] theorem log_err (e : Block.Event τ) (s : Block.State τ) : (s.log e).err = s.err := rfl
@[simp] theorem log_cfg (e : Block.Event τ) (s : Block.State τ) : (s.log e).cfg = s.cfg := rfl
@[simp] theorem log_args (e : Block.Event τ) (s : Block.State τ) : (s.log e).args = s.args := rfl
@[simp] theorem log_phase (e : Block.Event τ) (s : Block.State τ) : (s.log e).phase = s.phase := rfl
@[simp] theorem log_whole (e : Block.Event τ) (s : Block.State τ) : (s.log e).whole = s.whole := rfl
@[simp] theorem log_drained (e : Block.Event τ) (s : Block.State τ) : (s.log e).drained = s.drained := rfl
@[simp] theorem log_replies (e : Block.Event τ) (s : Block.State τ) : (s.log e).replies = s.replies := rfl
@[simp] theorem log_trace (e : Block.Event τ) (s : Block.State τ) : (s.log e).trace = s.trace ++ [e] := rfl
@[simp] theorem log_results (e : Block.Event τ) (s : Block.State τ) : (s.log e).results = s.results := rfl
@[simp] theorem log_calls (e : Block.Event τ) (s : Block.State τ) : (s.log e).calls = s.calls := rfl
@[simp] theorem log_resetLine (e : Block.Event τ) (s : Block.State τ) : (s.log e).resetLine = s.resetLine := rfl

/-! ### `State.setBank` -/

@[simp] theorem setBank_bank (b : Bank) (s : Block.State τ) : (s.setBank b).bank = b := rfl
@[simp] theorem setBank_op (b : Bank) (s : Block.State τ) : (s.setBank b).op = s.op := rfl
@[simp] theorem setBank_pstate (b : Bank) (s : Block.State τ) : (s.setBank b).pstate = s.pstate := rfl
@[simp] theorem setBank_tag (b : Bank) (s : Block.State τ) : (s.setBank b).tag = s.tag := rfl
@[simp] theorem setBank_gidx (b : Bank) (s : Block.State τ) : (s.setBank b).gidx = s.gidx := rfl
@[simp] theorem setBank_geom (b : Bank) (s : Block.State τ) : (s.setBank b).geom = s.geom := rfl
@[simp] theorem setBank_xfer (b : Bank) (s : Block.State τ) : (s.setBank b).xfer = s.xfer := rfl
@[simp] theorem setBank_stg (b : Bank) (s : Block.State τ) : (s.setBank b).stg = s.stg.fit b.stgWords := rfl
@[simp] theorem setBank_packer (b : Bank) (s : Block.State τ) : (s.setBank b).packer = s.packer := rfl
@[simp] theorem setBank_packed (b : Bank) (s : Block.State τ) : (s.setBank b).packed = s.packed := rfl
@[simp] theorem setBank_resp (b : Bank) (s : Block.State τ) : (s.setBank b).resp = s.resp := rfl
@[simp] theorem setBank_err (b : Bank) (s : Block.State τ) : (s.setBank b).err = s.err := rfl
@[simp] theorem setBank_cfg (b : Bank) (s : Block.State τ) : (s.setBank b).cfg = s.cfg := rfl
@[simp] theorem setBank_args (b : Bank) (s : Block.State τ) : (s.setBank b).args = s.args := rfl
@[simp] theorem setBank_phase (b : Bank) (s : Block.State τ) : (s.setBank b).phase = s.phase := rfl
@[simp] theorem setBank_whole (b : Bank) (s : Block.State τ) : (s.setBank b).whole = s.whole := rfl
@[simp] theorem setBank_drained (b : Bank) (s : Block.State τ) : (s.setBank b).drained = s.drained := rfl
@[simp] theorem setBank_replies (b : Bank) (s : Block.State τ) : (s.setBank b).replies = s.replies := rfl
@[simp] theorem setBank_trace (b : Bank) (s : Block.State τ) : (s.setBank b).trace = s.trace := rfl
@[simp] theorem setBank_results (b : Bank) (s : Block.State τ) : (s.setBank b).results = s.results := rfl
@[simp] theorem setBank_calls (b : Bank) (s : Block.State τ) : (s.setBank b).calls = s.calls := rfl
@[simp] theorem setBank_resetLine (b : Bank) (s : Block.State τ) : (s.setBank b).resetLine = s.resetLine := rfl

/-! ### `raiseError` -/

@[simp] theorem raiseError_bank (c : Bool) (e : Block.ErrInfo τ) (s : Block.State τ) : (raiseError c e s).bank = if s.op = .probe ∨ e.kind = .bankInvalid then Bank.unprobed else s.bank := rfl
@[simp] theorem raiseError_op (c : Bool) (e : Block.ErrInfo τ) (s : Block.State τ) : (raiseError c e s).op = .none := rfl
@[simp] theorem raiseError_pstate (c : Bool) (e : Block.ErrInfo τ) (s : Block.State τ) : (raiseError c e s).pstate = if c then .failed else s.pstate := rfl
@[simp] theorem raiseError_tag (c : Bool) (e : Block.ErrInfo τ) (s : Block.State τ) : (raiseError c e s).tag = s.tag := rfl
@[simp] theorem raiseError_gidx (c : Bool) (e : Block.ErrInfo τ) (s : Block.State τ) : (raiseError c e s).gidx = s.gidx := rfl
@[simp] theorem raiseError_geom (c : Bool) (e : Block.ErrInfo τ) (s : Block.State τ) : (raiseError c e s).geom = s.geom := rfl
@[simp] theorem raiseError_xfer (c : Bool) (e : Block.ErrInfo τ) (s : Block.State τ) : (raiseError c e s).xfer = s.xfer := rfl
@[simp] theorem raiseError_stg (c : Bool) (e : Block.ErrInfo τ) (s : Block.State τ) : (raiseError c e s).stg = if s.op = .probe ∨ e.kind = .bankInvalid then s.stg.fit Bank.unprobed.stgWords else s.stg := rfl
@[simp] theorem raiseError_packer (c : Bool) (e : Block.ErrInfo τ) (s : Block.State τ) : (raiseError c e s).packer = s.packer := rfl
@[simp] theorem raiseError_packed (c : Bool) (e : Block.ErrInfo τ) (s : Block.State τ) : (raiseError c e s).packed = s.packed := rfl
@[simp] theorem raiseError_resp (c : Bool) (e : Block.ErrInfo τ) (s : Block.State τ) : (raiseError c e s).resp = s.resp := rfl
@[simp] theorem raiseError_err (c : Bool) (e : Block.ErrInfo τ) (s : Block.State τ) : (raiseError c e s).err = s.err.record e (if c = true ∧ s.op = .write then some s.xfer.curOffset else none) := rfl
@[simp] theorem raiseError_cfg (c : Bool) (e : Block.ErrInfo τ) (s : Block.State τ) : (raiseError c e s).cfg = s.cfg := rfl
@[simp] theorem raiseError_args (c : Bool) (e : Block.ErrInfo τ) (s : Block.State τ) : (raiseError c e s).args = s.args := rfl
@[simp] theorem raiseError_phase (c : Bool) (e : Block.ErrInfo τ) (s : Block.State τ) : (raiseError c e s).phase = .idle := rfl
@[simp] theorem raiseError_whole (c : Bool) (e : Block.ErrInfo τ) (s : Block.State τ) : (raiseError c e s).whole = false := rfl
@[simp] theorem raiseError_drained (c : Bool) (e : Block.ErrInfo τ) (s : Block.State τ) : (raiseError c e s).drained = s.drained := rfl
@[simp] theorem raiseError_replies (c : Bool) (e : Block.ErrInfo τ) (s : Block.State τ) : (raiseError c e s).replies = s.replies := rfl
@[simp] theorem raiseError_trace (c : Bool) (e : Block.ErrInfo τ) (s : Block.State τ) : (raiseError c e s).trace = s.trace := rfl
@[simp] theorem raiseError_results (c : Bool) (e : Block.ErrInfo τ) (s : Block.State τ) : (raiseError c e s).results = if s.op = .none then s.results
      else s.results ++ [.err e (if c = true ∧ s.op = .write then some s.xfer.curOffset else none)] := rfl
@[simp] theorem raiseError_calls (c : Bool) (e : Block.ErrInfo τ) (s : Block.State τ) : (raiseError c e s).calls = s.calls := rfl
@[simp] theorem raiseError_resetLine (c : Bool) (e : Block.ErrInfo τ) (s : Block.State τ) : (raiseError c e s).resetLine = s.resetLine := rfl

/-! ### `finishOk` -/

@[simp] theorem finishOk_bank (s : Block.State τ) : (finishOk s).bank = s.bank := rfl
@[simp] theorem finishOk_op (s : Block.State τ) : (finishOk s).op = .none := rfl
@[simp] theorem finishOk_pstate (s : Block.State τ) : (finishOk s).pstate = s.pstate := rfl
@[simp] theorem finishOk_tag (s : Block.State τ) : (finishOk s).tag = s.tag := rfl
@[simp] theorem finishOk_gidx (s : Block.State τ) : (finishOk s).gidx = s.gidx := rfl
@[simp] theorem finishOk_geom (s : Block.State τ) : (finishOk s).geom = s.geom := rfl
@[simp] theorem finishOk_xfer (s : Block.State τ) : (finishOk s).xfer = s.xfer := rfl
@[simp] theorem finishOk_stg (s : Block.State τ) : (finishOk s).stg = s.stg := rfl
@[simp] theorem finishOk_packer (s : Block.State τ) : (finishOk s).packer = s.packer := rfl
@[simp] theorem finishOk_packed (s : Block.State τ) : (finishOk s).packed = s.packed := rfl
@[simp] theorem finishOk_resp (s : Block.State τ) : (finishOk s).resp = s.resp := rfl
@[simp] theorem finishOk_err (s : Block.State τ) : (finishOk s).err = { s.err with kind := .none } := rfl
@[simp] theorem finishOk_cfg (s : Block.State τ) : (finishOk s).cfg = s.cfg := rfl
@[simp] theorem finishOk_args (s : Block.State τ) : (finishOk s).args = s.args := rfl
@[simp] theorem finishOk_phase (s : Block.State τ) : (finishOk s).phase = .idle := rfl
@[simp] theorem finishOk_whole (s : Block.State τ) : (finishOk s).whole = false := rfl
@[simp] theorem finishOk_drained (s : Block.State τ) : (finishOk s).drained = s.drained := rfl
@[simp] theorem finishOk_replies (s : Block.State τ) : (finishOk s).replies = s.replies := rfl
@[simp] theorem finishOk_trace (s : Block.State τ) : (finishOk s).trace = s.trace := rfl
@[simp] theorem finishOk_results (s : Block.State τ) : (finishOk s).results = if s.op = .none then s.results else s.results ++ [.ok] := rfl
@[simp] theorem finishOk_calls (s : Block.State τ) : (finishOk s).calls = s.calls := rfl
@[simp] theorem finishOk_resetLine (s : Block.State τ) : (finishOk s).resetLine = s.resetLine := rfl

/-! ### `accept` -/

@[simp] theorem accept_bank (k : OpKind) (a : Args) (s : Block.State τ) : (accept k a s).bank = s.bank := rfl
@[simp] theorem accept_op (k : OpKind) (a : Args) (s : Block.State τ) : (accept k a s).op = k := rfl
@[simp] theorem accept_pstate (k : OpKind) (a : Args) (s : Block.State τ) : (accept k a s).pstate = .idle := rfl
@[simp] theorem accept_tag (k : OpKind) (a : Args) (s : Block.State τ) : (accept k a s).tag = s.tag := rfl
@[simp] theorem accept_gidx (k : OpKind) (a : Args) (s : Block.State τ) : (accept k a s).gidx = s.gidx := rfl
@[simp] theorem accept_geom (k : OpKind) (a : Args) (s : Block.State τ) : (accept k a s).geom = s.geom := rfl
@[simp] theorem accept_xfer (k : OpKind) (a : Args) (s : Block.State τ) : (accept k a s).xfer = s.xfer := rfl
@[simp] theorem accept_stg (k : OpKind) (a : Args) (s : Block.State τ) : (accept k a s).stg = s.stg := rfl
@[simp] theorem accept_packer (k : OpKind) (a : Args) (s : Block.State τ) : (accept k a s).packer = s.packer := rfl
@[simp] theorem accept_packed (k : OpKind) (a : Args) (s : Block.State τ) : (accept k a s).packed = s.packed := rfl
@[simp] theorem accept_resp (k : OpKind) (a : Args) (s : Block.State τ) : (accept k a s).resp = s.resp := rfl
@[simp] theorem accept_err (k : OpKind) (a : Args) (s : Block.State τ) : (accept k a s).err = { s.err with kind := .none } := rfl
@[simp] theorem accept_cfg (k : OpKind) (a : Args) (s : Block.State τ) : (accept k a s).cfg = s.cfg := rfl
@[simp] theorem accept_args (k : OpKind) (a : Args) (s : Block.State τ) : (accept k a s).args = a := rfl
@[simp] theorem accept_phase (k : OpKind) (a : Args) (s : Block.State τ) : (accept k a s).phase = s.phase := rfl
@[simp] theorem accept_whole (k : OpKind) (a : Args) (s : Block.State τ) : (accept k a s).whole = true := rfl
@[simp] theorem accept_drained (k : OpKind) (a : Args) (s : Block.State τ) : (accept k a s).drained = s.drained := rfl
@[simp] theorem accept_replies (k : OpKind) (a : Args) (s : Block.State τ) : (accept k a s).replies = s.replies := rfl
@[simp] theorem accept_trace (k : OpKind) (a : Args) (s : Block.State τ) : (accept k a s).trace = s.trace := rfl
@[simp] theorem accept_results (k : OpKind) (a : Args) (s : Block.State τ) : (accept k a s).results = s.results := rfl
@[simp] theorem accept_calls (k : OpKind) (a : Args) (s : Block.State τ) : (accept k a s).calls = s.calls := rfl
@[simp] theorem accept_resetLine (k : OpKind) (a : Args) (s : Block.State τ) : (accept k a s).resetLine = s.resetLine := rfl

/-! ### `beginCycle` -/

@[simp] theorem beginCycle_bank (g : Tag) (n : Nat) (s : Block.State τ) : (beginCycle g n s).bank = s.bank := rfl
@[simp] theorem beginCycle_op (g : Tag) (n : Nat) (s : Block.State τ) : (beginCycle g n s).op = s.op := rfl
@[simp] theorem beginCycle_pstate (g : Tag) (n : Nat) (s : Block.State τ) : (beginCycle g n s).pstate = .idle := rfl
@[simp] theorem beginCycle_tag (g : Tag) (n : Nat) (s : Block.State τ) : (beginCycle g n s).tag = g := rfl
@[simp] theorem beginCycle_gidx (g : Tag) (n : Nat) (s : Block.State τ) : (beginCycle g n s).gidx = s.gidx := rfl
@[simp] theorem beginCycle_geom (g : Tag) (n : Nat) (s : Block.State τ) : (beginCycle g n s).geom = s.geom := rfl
@[simp] theorem beginCycle_xfer (g : Tag) (n : Nat) (s : Block.State τ) : (beginCycle g n s).xfer = s.xfer := rfl
@[simp] theorem beginCycle_stg (g : Tag) (n : Nat) (s : Block.State τ) : (beginCycle g n s).stg = s.stg := rfl
@[simp] theorem beginCycle_packer (g : Tag) (n : Nat) (s : Block.State τ) : (beginCycle g n s).packer = s.packer := rfl
@[simp] theorem beginCycle_packed (g : Tag) (n : Nat) (s : Block.State τ) : (beginCycle g n s).packed = s.packed := rfl
@[simp] theorem beginCycle_resp (g : Tag) (n : Nat) (s : Block.State τ) : (beginCycle g n s).resp = s.resp := rfl
@[simp] theorem beginCycle_err (g : Tag) (n : Nat) (s : Block.State τ) : (beginCycle g n s).err = s.err := rfl
@[simp] theorem beginCycle_cfg (g : Tag) (n : Nat) (s : Block.State τ) : (beginCycle g n s).cfg = s.cfg := rfl
@[simp] theorem beginCycle_args (g : Tag) (n : Nat) (s : Block.State τ) : (beginCycle g n s).args = s.args := rfl
@[simp] theorem beginCycle_phase (g : Tag) (n : Nat) (s : Block.State τ) : (beginCycle g n s).phase = .send n := rfl
@[simp] theorem beginCycle_whole (g : Tag) (n : Nat) (s : Block.State τ) : (beginCycle g n s).whole = s.whole := rfl
@[simp] theorem beginCycle_drained (g : Tag) (n : Nat) (s : Block.State τ) : (beginCycle g n s).drained = s.drained := rfl
@[simp] theorem beginCycle_replies (g : Tag) (n : Nat) (s : Block.State τ) : (beginCycle g n s).replies = s.replies := rfl
@[simp] theorem beginCycle_trace (g : Tag) (n : Nat) (s : Block.State τ) : (beginCycle g n s).trace = s.trace := rfl
@[simp] theorem beginCycle_results (g : Tag) (n : Nat) (s : Block.State τ) : (beginCycle g n s).results = s.results := rfl
@[simp] theorem beginCycle_calls (g : Tag) (n : Nat) (s : Block.State τ) : (beginCycle g n s).calls = s.calls := rfl
@[simp] theorem beginCycle_resetLine (g : Tag) (n : Nat) (s : Block.State τ) : (beginCycle g n s).resetLine = s.resetLine := rfl

/-! ### `startCommand` -/

@[simp] theorem startCommand_bank (g : Tag) (ws : List Word) (s : Block.State τ) : (startCommand g ws s).bank = s.bank := rfl
@[simp] theorem startCommand_op (g : Tag) (ws : List Word) (s : Block.State τ) : (startCommand g ws s).op = s.op := rfl
@[simp] theorem startCommand_pstate (g : Tag) (ws : List Word) (s : Block.State τ) : (startCommand g ws s).pstate = .idle := rfl
@[simp] theorem startCommand_tag (g : Tag) (ws : List Word) (s : Block.State τ) : (startCommand g ws s).tag = g := rfl
@[simp] theorem startCommand_gidx (g : Tag) (ws : List Word) (s : Block.State τ) : (startCommand g ws s).gidx = s.gidx := rfl
@[simp] theorem startCommand_geom (g : Tag) (ws : List Word) (s : Block.State τ) : (startCommand g ws s).geom = s.geom := rfl
@[simp] theorem startCommand_xfer (g : Tag) (ws : List Word) (s : Block.State τ) : (startCommand g ws s).xfer = s.xfer := rfl
@[simp] theorem startCommand_stg (g : Tag) (ws : List Word) (s : Block.State τ) : (startCommand g ws s).stg = s.stg.writeAll s.bank.stgWords 0 ws := rfl
@[simp] theorem startCommand_packer (g : Tag) (ws : List Word) (s : Block.State τ) : (startCommand g ws s).packer = s.packer := rfl
@[simp] theorem startCommand_packed (g : Tag) (ws : List Word) (s : Block.State τ) : (startCommand g ws s).packed = s.packed := rfl
@[simp] theorem startCommand_resp (g : Tag) (ws : List Word) (s : Block.State τ) : (startCommand g ws s).resp = s.resp := rfl
@[simp] theorem startCommand_err (g : Tag) (ws : List Word) (s : Block.State τ) : (startCommand g ws s).err = s.err := rfl
@[simp] theorem startCommand_cfg (g : Tag) (ws : List Word) (s : Block.State τ) : (startCommand g ws s).cfg = s.cfg := rfl
@[simp] theorem startCommand_args (g : Tag) (ws : List Word) (s : Block.State τ) : (startCommand g ws s).args = s.args := rfl
@[simp] theorem startCommand_phase (g : Tag) (ws : List Word) (s : Block.State τ) : (startCommand g ws s).phase = .send ws.length := rfl
@[simp] theorem startCommand_whole (g : Tag) (ws : List Word) (s : Block.State τ) : (startCommand g ws s).whole = s.whole := rfl
@[simp] theorem startCommand_drained (g : Tag) (ws : List Word) (s : Block.State τ) : (startCommand g ws s).drained = s.drained := rfl
@[simp] theorem startCommand_replies (g : Tag) (ws : List Word) (s : Block.State τ) : (startCommand g ws s).replies = s.replies := rfl
@[simp] theorem startCommand_trace (g : Tag) (ws : List Word) (s : Block.State τ) : (startCommand g ws s).trace = s.trace := rfl
@[simp] theorem startCommand_results (g : Tag) (ws : List Word) (s : Block.State τ) : (startCommand g ws s).results = s.results := rfl
@[simp] theorem startCommand_calls (g : Tag) (ws : List Word) (s : Block.State τ) : (startCommand g ws s).calls = s.calls := rfl
@[simp] theorem startCommand_resetLine (g : Tag) (ws : List Word) (s : Block.State τ) : (startCommand g ws s).resetLine = s.resetLine := rfl

/-! ### `startDrain` -/

@[simp] theorem startDrain_bank (s : Block.State τ) : (startDrain s).bank = s.bank := rfl
@[simp] theorem startDrain_op (s : Block.State τ) : (startDrain s).op = s.op := rfl
@[simp] theorem startDrain_pstate (s : Block.State τ) : (startDrain s).pstate = s.pstate := rfl
@[simp] theorem startDrain_tag (s : Block.State τ) : (startDrain s).tag = s.tag := rfl
@[simp] theorem startDrain_gidx (s : Block.State τ) : (startDrain s).gidx = s.gidx := rfl
@[simp] theorem startDrain_geom (s : Block.State τ) : (startDrain s).geom = s.geom := rfl
@[simp] theorem startDrain_xfer (s : Block.State τ) : (startDrain s).xfer = s.xfer := rfl
@[simp] theorem startDrain_stg (s : Block.State τ) : (startDrain s).stg = s.stg := rfl
@[simp] theorem startDrain_packer (s : Block.State τ) : (startDrain s).packer = s.packer := rfl
@[simp] theorem startDrain_packed (s : Block.State τ) : (startDrain s).packed = s.packed := rfl
@[simp] theorem startDrain_resp (s : Block.State τ) : (startDrain s).resp = s.resp := rfl
@[simp] theorem startDrain_err (s : Block.State τ) : (startDrain s).err = s.err := rfl
@[simp] theorem startDrain_cfg (s : Block.State τ) : (startDrain s).cfg = s.cfg := rfl
@[simp] theorem startDrain_args (s : Block.State τ) : (startDrain s).args = s.args := rfl
@[simp] theorem startDrain_phase (s : Block.State τ) : (startDrain s).phase = .drainPoll := rfl
@[simp] theorem startDrain_whole (s : Block.State τ) : (startDrain s).whole = s.whole := rfl
@[simp] theorem startDrain_drained (s : Block.State τ) : (startDrain s).drained = 0 := rfl
@[simp] theorem startDrain_replies (s : Block.State τ) : (startDrain s).replies = s.replies := rfl
@[simp] theorem startDrain_trace (s : Block.State τ) : (startDrain s).trace = s.trace := rfl
@[simp] theorem startDrain_results (s : Block.State τ) : (startDrain s).results = s.results := rfl
@[simp] theorem startDrain_calls (s : Block.State τ) : (startDrain s).calls = s.calls := rfl
@[simp] theorem startDrain_resetLine (s : Block.State τ) : (startDrain s).resetLine = s.resetLine := rfl

/-! ### `startGeomRead` -/

@[simp] theorem startGeomRead_bank (s : Block.State τ) : (startGeomRead s).bank = s.bank := rfl
@[simp] theorem startGeomRead_op (s : Block.State τ) : (startGeomRead s).op = s.op := rfl
@[simp] theorem startGeomRead_pstate (s : Block.State τ) : (startGeomRead s).pstate = s.pstate := rfl
@[simp] theorem startGeomRead_tag (s : Block.State τ) : (startGeomRead s).tag = s.tag := rfl
@[simp] theorem startGeomRead_gidx (s : Block.State τ) : (startGeomRead s).gidx = 0 := rfl
@[simp] theorem startGeomRead_geom (s : Block.State τ) : (startGeomRead s).geom = s.geom := rfl
@[simp] theorem startGeomRead_xfer (s : Block.State τ) : (startGeomRead s).xfer = s.xfer := rfl
@[simp] theorem startGeomRead_stg (s : Block.State τ) : (startGeomRead s).stg = s.stg := rfl
@[simp] theorem startGeomRead_packer (s : Block.State τ) : (startGeomRead s).packer = s.packer := rfl
@[simp] theorem startGeomRead_packed (s : Block.State τ) : (startGeomRead s).packed = s.packed := rfl
@[simp] theorem startGeomRead_resp (s : Block.State τ) : (startGeomRead s).resp = s.resp := rfl
@[simp] theorem startGeomRead_err (s : Block.State τ) : (startGeomRead s).err = s.err := rfl
@[simp] theorem startGeomRead_cfg (s : Block.State τ) : (startGeomRead s).cfg = s.cfg := rfl
@[simp] theorem startGeomRead_args (s : Block.State τ) : (startGeomRead s).args = s.args := rfl
@[simp] theorem startGeomRead_phase (s : Block.State τ) : (startGeomRead s).phase = .geomWait := rfl
@[simp] theorem startGeomRead_whole (s : Block.State τ) : (startGeomRead s).whole = s.whole := rfl
@[simp] theorem startGeomRead_drained (s : Block.State τ) : (startGeomRead s).drained = s.drained := rfl
@[simp] theorem startGeomRead_replies (s : Block.State τ) : (startGeomRead s).replies = s.replies := rfl
@[simp] theorem startGeomRead_trace (s : Block.State τ) : (startGeomRead s).trace = s.trace := rfl
@[simp] theorem startGeomRead_results (s : Block.State τ) : (startGeomRead s).results = s.results := rfl
@[simp] theorem startGeomRead_calls (s : Block.State τ) : (startGeomRead s).calls = s.calls := rfl
@[simp] theorem startGeomRead_resetLine (s : Block.State τ) : (startGeomRead s).resetLine = s.resetLine := rfl

/-! ### `afterGeomRead` -/

@[simp] theorem afterGeomRead_bank (s : Block.State τ) : (afterGeomRead s).bank = s.bank := rfl
@[simp] theorem afterGeomRead_op (s : Block.State τ) : (afterGeomRead s).op = s.op := rfl
@[simp] theorem afterGeomRead_pstate (s : Block.State τ) : (afterGeomRead s).pstate = s.pstate := rfl
@[simp] theorem afterGeomRead_tag (s : Block.State τ) : (afterGeomRead s).tag = s.tag := rfl
@[simp] theorem afterGeomRead_gidx (s : Block.State τ) : (afterGeomRead s).gidx = s.gidx := rfl
@[simp] theorem afterGeomRead_geom (s : Block.State τ) : (afterGeomRead s).geom = s.geom := rfl
@[simp] theorem afterGeomRead_xfer (s : Block.State τ) : (afterGeomRead s).xfer = s.xfer := rfl
@[simp] theorem afterGeomRead_stg (s : Block.State τ) : (afterGeomRead s).stg = s.stg := rfl
@[simp] theorem afterGeomRead_packer (s : Block.State τ) : (afterGeomRead s).packer = s.packer := rfl
@[simp] theorem afterGeomRead_packed (s : Block.State τ) : (afterGeomRead s).packed = s.packed := rfl
@[simp] theorem afterGeomRead_resp (s : Block.State τ) : (afterGeomRead s).resp = s.resp := rfl
@[simp] theorem afterGeomRead_err (s : Block.State τ) : (afterGeomRead s).err = s.err := rfl
@[simp] theorem afterGeomRead_cfg (s : Block.State τ) : (afterGeomRead s).cfg = s.cfg := rfl
@[simp] theorem afterGeomRead_args (s : Block.State τ) : (afterGeomRead s).args = s.args := rfl
@[simp] theorem afterGeomRead_phase (s : Block.State τ) : (afterGeomRead s).phase = if s.whole then .geomCheck else .idle := rfl
@[simp] theorem afterGeomRead_whole (s : Block.State τ) : (afterGeomRead s).whole = s.whole := rfl
@[simp] theorem afterGeomRead_drained (s : Block.State τ) : (afterGeomRead s).drained = s.drained := rfl
@[simp] theorem afterGeomRead_replies (s : Block.State τ) : (afterGeomRead s).replies = s.replies := rfl
@[simp] theorem afterGeomRead_trace (s : Block.State τ) : (afterGeomRead s).trace = s.trace := rfl
@[simp] theorem afterGeomRead_results (s : Block.State τ) : (afterGeomRead s).results = s.results := rfl
@[simp] theorem afterGeomRead_calls (s : Block.State τ) : (afterGeomRead s).calls = s.calls := rfl
@[simp] theorem afterGeomRead_resetLine (s : Block.State τ) : (afterGeomRead s).resetLine = s.resetLine := rfl

/-! ### `advance` -/

@[simp] theorem advance_bank (s : Block.State τ) : (advance s).bank = s.bank := rfl
@[simp] theorem advance_op (s : Block.State τ) : (advance s).op = s.op := rfl
@[simp] theorem advance_pstate (s : Block.State τ) : (advance s).pstate = s.pstate := rfl
@[simp] theorem advance_tag (s : Block.State τ) : (advance s).tag = s.tag := rfl
@[simp] theorem advance_gidx (s : Block.State τ) : (advance s).gidx = s.gidx := rfl
@[simp] theorem advance_geom (s : Block.State τ) : (advance s).geom = s.geom := rfl
@[simp] theorem advance_xfer (s : Block.State τ) : (advance s).xfer = { s.xfer with curOffset := s.xfer.curOffset + s.xfer.runLen, payPos := s.xfer.payPos + s.xfer.runLen, remaining := s.xfer.remaining - s.xfer.runLen } := rfl
@[simp] theorem advance_stg (s : Block.State τ) : (advance s).stg = s.stg := rfl
@[simp] theorem advance_packer (s : Block.State τ) : (advance s).packer = s.packer := rfl
@[simp] theorem advance_packed (s : Block.State τ) : (advance s).packed = s.packed := rfl
@[simp] theorem advance_resp (s : Block.State τ) : (advance s).resp = s.resp := rfl
@[simp] theorem advance_err (s : Block.State τ) : (advance s).err = s.err := rfl
@[simp] theorem advance_cfg (s : Block.State τ) : (advance s).cfg = s.cfg := rfl
@[simp] theorem advance_args (s : Block.State τ) : (advance s).args = s.args := rfl
@[simp] theorem advance_phase (s : Block.State τ) : (advance s).phase = .chunk := rfl
@[simp] theorem advance_whole (s : Block.State τ) : (advance s).whole = s.whole := rfl
@[simp] theorem advance_drained (s : Block.State τ) : (advance s).drained = s.drained := rfl
@[simp] theorem advance_replies (s : Block.State τ) : (advance s).replies = s.replies := rfl
@[simp] theorem advance_trace (s : Block.State τ) : (advance s).trace = s.trace := rfl
@[simp] theorem advance_results (s : Block.State τ) : (advance s).results = s.results := rfl
@[simp] theorem advance_calls (s : Block.State τ) : (advance s).calls = s.calls := rfl
@[simp] theorem advance_resetLine (s : Block.State τ) : (advance s).resetLine = s.resetLine := rfl

/-! ### `callHandshake` -/

@[simp] theorem callHandshake_bank (s : Block.State τ) : (callHandshake s).bank = s.bank := rfl
@[simp] theorem callHandshake_op (s : Block.State τ) : (callHandshake s).op = s.op := rfl
@[simp] theorem callHandshake_pstate (s : Block.State τ) : (callHandshake s).pstate = .awaitingAck := rfl
@[simp] theorem callHandshake_tag (s : Block.State τ) : (callHandshake s).tag = s.tag := rfl
@[simp] theorem callHandshake_gidx (s : Block.State τ) : (callHandshake s).gidx = s.gidx := rfl
@[simp] theorem callHandshake_geom (s : Block.State τ) : (callHandshake s).geom = s.geom := rfl
@[simp] theorem callHandshake_xfer (s : Block.State τ) : (callHandshake s).xfer = s.xfer := rfl
@[simp] theorem callHandshake_stg (s : Block.State τ) : (callHandshake s).stg = s.stg := rfl
@[simp] theorem callHandshake_packer (s : Block.State τ) : (callHandshake s).packer = s.packer := rfl
@[simp] theorem callHandshake_packed (s : Block.State τ) : (callHandshake s).packed = s.packed := rfl
@[simp] theorem callHandshake_resp (s : Block.State τ) : (callHandshake s).resp = s.resp := rfl
@[simp] theorem callHandshake_err (s : Block.State τ) : (callHandshake s).err = s.err := rfl
@[simp] theorem callHandshake_cfg (s : Block.State τ) : (callHandshake s).cfg = s.cfg := rfl
@[simp] theorem callHandshake_args (s : Block.State τ) : (callHandshake s).args = s.args := rfl
@[simp] theorem callHandshake_phase (s : Block.State τ) : (callHandshake s).phase = .ackWait := rfl
@[simp] theorem callHandshake_whole (s : Block.State τ) : (callHandshake s).whole = s.whole := rfl
@[simp] theorem callHandshake_drained (s : Block.State τ) : (callHandshake s).drained = s.drained := rfl
@[simp] theorem callHandshake_replies (s : Block.State τ) : (callHandshake s).replies = s.replies := rfl
@[simp] theorem callHandshake_trace (s : Block.State τ) : (callHandshake s).trace = s.trace := rfl
@[simp] theorem callHandshake_results (s : Block.State τ) : (callHandshake s).results = s.results := rfl
@[simp] theorem callHandshake_calls (s : Block.State τ) : (callHandshake s).calls = s.calls := rfl
@[simp] theorem callHandshake_resetLine (s : Block.State τ) : (callHandshake s).resetLine = s.resetLine := rfl

/-! ### `State.resetNow` -/

@[simp] theorem resetNow_bank [Inhabited τ] (s : Block.State τ) : (s.resetNow).bank = Bank.unprobed := rfl
@[simp] theorem resetNow_op [Inhabited τ] (s : Block.State τ) : (s.resetNow).op = .none := rfl
@[simp] theorem resetNow_pstate [Inhabited τ] (s : Block.State τ) : (s.resetNow).pstate = .idle := rfl
@[simp] theorem resetNow_tag [Inhabited τ] (s : Block.State τ) : (s.resetNow).tag = .probe := rfl
@[simp] theorem resetNow_gidx [Inhabited τ] (s : Block.State τ) : (s.resetNow).gidx = 0 := rfl
@[simp] theorem resetNow_geom [Inhabited τ] (s : Block.State τ) : (s.resetNow).geom = ⟨0, 0, 0, 0⟩ := rfl
@[simp] theorem resetNow_xfer [Inhabited τ] (s : Block.State τ) : (s.resetNow).xfer = ⟨0, 0, 0, 0⟩ := rfl
@[simp] theorem resetNow_stg [Inhabited τ] (s : Block.State τ) : (s.resetNow).stg = [] := rfl
@[simp] theorem resetNow_packer [Inhabited τ] (s : Block.State τ) : (s.resetNow).packer = ⟨0, 0, 0, 0⟩ := rfl
@[simp] theorem resetNow_packed [Inhabited τ] (s : Block.State τ) : (s.resetNow).packed = [] := rfl
@[simp] theorem resetNow_resp [Inhabited τ] (s : Block.State τ) : (s.resetNow).resp = 0 := rfl
@[simp] theorem resetNow_err [Inhabited τ] (s : Block.State τ) : (s.resetNow).err = ⟨.none, .probe, 0, default, 0, false⟩ := rfl
@[simp] theorem resetNow_cfg [Inhabited τ] (s : Block.State τ) : (s.resetNow).cfg = s.cfg := rfl
@[simp] theorem resetNow_args [Inhabited τ] (s : Block.State τ) : (s.resetNow).args = Args.empty := rfl
@[simp] theorem resetNow_phase [Inhabited τ] (s : Block.State τ) : (s.resetNow).phase = .idle := rfl
@[simp] theorem resetNow_whole [Inhabited τ] (s : Block.State τ) : (s.resetNow).whole = false := rfl
@[simp] theorem resetNow_drained [Inhabited τ] (s : Block.State τ) : (s.resetNow).drained = 0 := rfl
@[simp] theorem resetNow_replies [Inhabited τ] (s : Block.State τ) : (s.resetNow).replies = s.replies := rfl
@[simp] theorem resetNow_trace [Inhabited τ] (s : Block.State τ) : (s.resetNow).trace = s.trace := rfl
@[simp] theorem resetNow_results [Inhabited τ] (s : Block.State τ) : (s.resetNow).results = s.results := rfl
@[simp] theorem resetNow_calls [Inhabited τ] (s : Block.State τ) : (s.resetNow).calls = s.calls := rfl
@[simp] theorem resetNow_resetLine [Inhabited τ] (s : Block.State τ) : (s.resetNow).resetLine = false := rfl

/-! ### `State.reset` -/

@[simp] theorem reset_bank : State.reset.bank = Bank.unprobed := rfl
@[simp] theorem reset_op : State.reset.op = .none := rfl
@[simp] theorem reset_pstate : State.reset.pstate = .idle := rfl
@[simp] theorem reset_tag : State.reset.tag = .probe := rfl
@[simp] theorem reset_gidx : State.reset.gidx = 0 := rfl
@[simp] theorem reset_geom : State.reset.geom = ⟨0, 0, 0, 0⟩ := rfl
@[simp] theorem reset_xfer : State.reset.xfer = ⟨0, 0, 0, 0⟩ := rfl
@[simp] theorem reset_stg : State.reset.stg = [] := rfl
@[simp] theorem reset_packer : State.reset.packer = ⟨0, 0, 0, 0⟩ := rfl
@[simp] theorem reset_packed : State.reset.packed = [] := rfl
@[simp] theorem reset_resp : State.reset.resp = 0 := rfl
@[simp] theorem reset_err : State.reset.err = ⟨.none, .probe, 0, default, 0, false⟩ := rfl
@[simp] theorem reset_cfg : State.reset.cfg = Params.default := rfl
@[simp] theorem reset_args : State.reset.args = Args.empty := rfl
@[simp] theorem reset_phase : State.reset.phase = .idle := rfl
@[simp] theorem reset_whole : State.reset.whole = false := rfl
@[simp] theorem reset_drained : State.reset.drained = 0 := rfl
@[simp] theorem reset_replies : State.reset.replies = [] := rfl
@[simp] theorem reset_trace : State.reset.trace = [] := rfl
@[simp] theorem reset_results : State.reset.results = [] := rfl
@[simp] theorem reset_calls : State.reset.calls = [] := rfl
@[simp] theorem reset_resetLine : State.reset.resetLine = false := rfl

/-! ### The error registers -/

@[simp] theorem kind_transportTimeout : (Block.ErrInfo.transportTimeout : Block.ErrInfo τ).kind = .transportTimeout := rfl
@[simp] theorem kind_protocolFailure (t : Tag) (w : Word) : (Block.ErrInfo.protocolFailure t w : Block.ErrInfo τ).kind = .protocolFailure := rfl
@[simp] theorem kind_bankNotProbed : (Block.ErrInfo.bankNotProbed : Block.ErrInfo τ).kind = .bankNotProbed := rfl
@[simp] theorem kind_bankInvalid : (Block.ErrInfo.bankInvalid : Block.ErrInfo τ).kind = .bankInvalid := rfl
@[simp] theorem kind_targetNotRunning : (Block.ErrInfo.targetNotRunning : Block.ErrInfo τ).kind = .targetNotRunning := rfl
@[simp] theorem kind_eq_bankInvalid (e : Block.ErrInfo τ) : e.kind = .bankInvalid ↔ e = .bankInvalid := by
  cases e <;> simp [Block.ErrInfo.kind]
@[simp] theorem kind_transportError (x : TransportErr τ) : (Block.ErrInfo.transportError x).kind = .transportError := rfl

@[simp] theorem record_kind (e : Block.ErrInfo τ) (o : Option Word) (r : Block.ErrRegs τ) : (r.record e o).kind = e.kind := rfl
@[simp] theorem record_failOffset (e : Block.ErrInfo τ) (o : Option Word) (r : Block.ErrRegs τ) :
    (r.record e o).failOffset = o.getD r.failOffset := rfl
@[simp] theorem record_failValid (e : Block.ErrInfo τ) (o : Option Word) (r : Block.ErrRegs τ) :
    (r.record e o).failValid = o.isSome := rfl
@[simp] theorem record_tag_protocolFailure (t : Tag) (w : Word) (o : Option Word) (r : Block.ErrRegs τ) :
    (r.record (.protocolFailure t w) o).tag = t := rfl
@[simp] theorem record_raw_protocolFailure (t : Tag) (w : Word) (o : Option Word) (r : Block.ErrRegs τ) :
    (r.record (.protocolFailure t w) o).raw = w := rfl
@[simp] theorem record_transport_transportError (x : TransportErr τ) (o : Option Word) (r : Block.ErrRegs τ) :
    (r.record (.transportError x) o).transport = x := rfl

/-! ### The inputs from outside -/

@[simp] theorem engaged_withWhole (s : Block.State τ) (b : Bool) : Block.State.engaged { s with whole := b } = s.engaged := rfl

end Sys2Proof.Machine
end

