-- ==== Sys2Proof/Laws/Engine.lean ====
section
/-! SUPPORT. The engine's ticks: what one tick is at each phase, that `runOn` takes ticks until there is none, and that a
property every tick keeps is kept by `runOn`. Later proofs cite `runOn_tick` and `runOn_stop` and never unfold
`runFor`. -/

namespace Sys2Proof.Machine

variable {τ : Type}

/-- The internal computations still to come before the next call, at most. -/
def phaseWeight : Phase → Nat
  | .respCheck => 2
  | .sent => 1
  | .geomCheck => 1
  | .chunk => 1
  | .idle => 0
  | .runCheck => 0
  | .drainPoll => 0
  | .drainTake => 0
  | .send _ => 0
  | .ackWait => 0
  | .respRead => 0
  | .geomWait => 0
  | .geomRead => 0

/-- What every tick lowers. -/
def tickMeasure (s : Block.State τ) : Nat := 3 * s.replies.length + phaseWeight s.phase

variable [Inhabited τ]

theorem phaseWeight_le (p : Phase) : phaseWeight p ≤ 2 := by cases p <;> simp [phaseWeight]

/-- The waiting states: idle, or in a call with no reply. -/
theorem tick_none_iff (s : Block.State τ) :
    tick s = none ↔ s.phase = .idle ∨ (s.phase.internal = false ∧ s.replies = []) := by
  unfold tick
  cases hp : s.phase <;> cases hr : s.replies <;> simp [Phase.internal]

@[simp] theorem answer_replies (r : Block.Reply τ) (s : Block.State τ) : (answer r s).replies = s.replies := by
  unfold answer
  cases hp : s.phase <;>
    simp only [answerRun, answerPoll, answerDrain, answerSend, answerAck, answerResponse, answerGeomAck, answerGeomWord,
      afterDrain, startErase, startWrite] <;> (repeat' split) <;> simp

omit [Inhabited τ] in
@[simp] theorem compute_replies (s : Block.State τ) : (compute s).replies = s.replies := by
  unfold compute
  cases hp : s.phase <;>
    simp only [checkResponse, checkGeometry, nextChunk, buildChunk, afterCycle] <;>
    (repeat' split) <;> simp

omit [Inhabited τ] in
/-- An internal computation leads to a phase with fewer to come. -/
theorem compute_weight {s : Block.State τ} (h : s.phase.internal = true) :
    phaseWeight (compute s).phase < phaseWeight s.phase := by
  unfold compute
  cases hp : s.phase <;> simp only [hp, Phase.internal, Bool.false_eq_true] at h <;>
    simp only [checkResponse, checkGeometry, nextChunk, buildChunk, afterCycle] <;> (repeat' split) <;>
    simp [phaseWeight]

/-- Every tick lowers the measure. -/
theorem tick_lowers {s t : Block.State τ} (h : tick s = some t) : tickMeasure t < tickMeasure s := by
  unfold tick at h
  split at h
  · rename_i hi
    obtain rfl := Option.some.inj h
    have := compute_weight hi
    simp only [tickMeasure, compute_replies]
    omega
  · split at h
    · cases h
    · split at h
      · cases h
      · rename_i r rs hr
        obtain rfl := Option.some.inj h
        have := phaseWeight_le (answer r { s with replies := rs }).phase
        simp only [tickMeasure, answer_replies, hr, List.length_cons]
        omega

/-- With enough ticks allowed, how many does not matter. -/
theorem runFor_enough : ∀ (n m : Nat) (s : Block.State τ), tickMeasure s ≤ n → tickMeasure s ≤ m → runFor n s = runFor m s := by
  intro n
  induction n with
  | zero =>
    intro m s hn hm
    cases m with
    | zero => rfl
    | succ m =>
      rw [runFor, runFor]
      cases ht : tick s with
      | none => rfl
      | some t => exact absurd (tick_lowers ht) (by omega)
  | succ n ih =>
    intro m s hn hm
    cases m with
    | zero =>
      rw [runFor, runFor]
      cases ht : tick s with
      | none => rfl
      | some t => exact absurd (tick_lowers ht) (by omega)
    | succ m =>
      rw [runFor, runFor]
      cases ht : tick s with
      | none => rfl
      | some t =>
        have := tick_lowers ht
        exact ih m t (by omega) (by omega)

omit [Inhabited τ] in
theorem tickMeasure_le_budget (s : Block.State τ) : tickMeasure s ≤ tickBudget s := by
  have := phaseWeight_le s.phase
  simp only [tickMeasure, tickBudget]
  omega

/-- Running on from a state that can tick is running on from its next state. -/
theorem runOn_tick {s t : Block.State τ} (h : tick s = some t) : runOn s = runOn t := by
  have hl := tick_lowers h
  have hs := tickMeasure_le_budget s
  have ht := tickMeasure_le_budget t
  have hb : tickBudget s = (tickBudget s - 1) + 1 := by simp [tickBudget]
  unfold runOn
  rw [hb, runFor, h]
  exact runFor_enough _ _ t (by omega) ht

/-- A state that cannot tick is where running on ends. -/
theorem runOn_stop {s : Block.State τ} (h : tick s = none) : runOn s = s := by
  unfold runOn tickBudget
  rw [runFor, h]

/-- Running on ends where there is no tick: idle, or in a call without a reply. -/
theorem tick_runOn (s : Block.State τ) : tick (runOn s) = none := by
  have key : ∀ n (s : Block.State τ), tickMeasure s ≤ n → tick (runOn s) = none := by
    intro n
    induction n with
    | zero =>
      intro s hs
      cases ht : tick s with
      | none => rw [runOn_stop ht, ht]
      | some t => exact absurd (tick_lowers ht) (by omega)
    | succ n ih =>
      intro s hs
      cases ht : tick s with
      | none => rw [runOn_stop ht, ht]
      | some t =>
        rw [runOn_tick ht]
        exact ih t (by have := tick_lowers ht; omega)
  exact key _ s le_rfl

/-- A property that every tick keeps is kept by running on. -/
theorem runOn_keeps {P : Block.State τ → Prop} (hP : ∀ s t, P s → tick s = some t → P t) {s : Block.State τ} (h : P s) :
    P (runOn s) := by
  have key : ∀ n (s : Block.State τ), tickMeasure s ≤ n → P s → P (runOn s) := by
    intro n
    induction n with
    | zero =>
      intro s hs h
      cases ht : tick s with
      | none => rwa [runOn_stop ht]
      | some t => exact absurd (tick_lowers ht) (by omega)
    | succ n ih =>
      intro s hs h
      cases ht : tick s with
      | none => rwa [runOn_stop ht]
      | some t =>
        rw [runOn_tick ht]
        exact ih t (by have := tick_lowers ht; omega) (hP s t h ht)
  exact key _ s le_rfl h

/-- What a tick is: an internal computation, or the answer of the next reply. -/
theorem tick_cases {s t : Block.State τ} (h : tick s = some t) :
    (s.phase.internal = true ∧ t = compute s) ∨
      (s.phase.internal = false ∧ s.phase ≠ .idle ∧
        ∃ r rs, s.replies = r :: rs ∧ t = answer r { s with replies := rs }) := by
  unfold tick at h
  split at h
  · exact .inl ⟨‹_›, (Option.some.inj h).symm⟩
  · split at h
    · cases h
    · split at h
      · cases h
      · exact .inr ⟨by simpa using ‹¬ s.phase.internal = true›, ‹_›, _, _, ‹_›, (Option.some.inj h).symm⟩

/-- A tick at an internal computation. -/
theorem tick_internal {s : Block.State τ} (h : s.phase.internal = true) : tick s = some (compute s) := by
  unfold tick
  rw [if_pos h]

/-- A tick at a call with a reply. -/
theorem tick_call {s : Block.State τ} {r : Block.Reply τ} {rs : List (Block.Reply τ)} (hi : s.phase.internal = false) (hp : s.phase ≠ .idle)
    (hr : s.replies = r :: rs) : tick s = some (answer r { s with replies := rs }) := by
  unfold tick
  rw [if_neg (by simp [hi]), if_neg hp, hr]

/-- No tick when idle. -/
theorem tick_idle {s : Block.State τ} (h : s.phase = .idle) : tick s = none := (tick_none_iff s).mpr (.inl h)

/-- Nothing is in flight, so an instruction starts. -/
theorem launch_ready {start : Block.State τ → Block.State τ} {s : Block.State τ} (h : s.engaged = false) :
    launch start s = .next (runOn (start { s with whole := false })) := by
  simp [launch, h]

/-- What is in flight refuses another (30_encoding.md R91). -/
theorem launch_engaged {start : Block.State τ → Block.State τ} {s : Block.State τ} (h : s.engaged = true) :
    launch start s = .refused .operationInProgress := by
  simp [launch, h]

/-- Everything `launch` can answer. -/
theorem launch_next {start : Block.State τ → Block.State τ} {s t : Block.State τ} (h : launch start s = .next t) :
    s.engaged = false ∧ t = runOn (start { s with whole := false }) := by
  unfold launch at h
  split at h
  · cases h
  · rename_i he
    cases h
    exact ⟨by simpa using he, rfl⟩

omit [Inhabited τ] in
/-- Nothing in flight means no operation and no phase. -/
theorem engaged_eq_false_iff (s : Block.State τ) : s.engaged = false ↔ s.op = .none ∧ s.phase = .idle := by
  simp [Block.State.engaged, Block.State.busy]

end Sys2Proof.Machine
end

