-- ==== Sys2Proof/Laws/Ops.lean ====
section
/-! SUPPORT. Everything one tick can do, said once (`tick_to`), the ways an instruction starts (`launch_next` and the
lemmas beside it). Later proofs do cases on `TickTo` and
never unfold `tick`, `answer` or `compute`. -/

namespace Sys2Proof.Machine

variable {τ : Type}

/-- The command an ERASE starts is the one of `eraseCommand` (43_erase.md R193, R194). -/
theorem startErase_eq (s : Block.State τ) :
    startErase s = startCommand (eraseCommand s.cfg s.bank s.args.first s.args.last).1
      (eraseCommand s.cfg s.bank s.args.first s.args.last).2 s := by
  unfold startErase eraseCommand Bank.spans
  by_cases h : s.args.first = 0 ∧ s.args.last = s.bank.sectCount - 1
  · have h' : (s.args.first == 0 && s.args.last == s.bank.sectCount - 1) = true := by simpa using h
    rw [if_pos h', if_pos h]
  · have h' : ¬ (s.args.first == 0 && s.args.last == s.bank.sectCount - 1) = true := by simpa using h
    rw [if_neg h', if_neg h]

variable [Inhabited τ]

/-- Running on from a call with a reply. -/
theorem runOn_call {s : Block.State τ} {r : Block.Reply τ} {rs : List (Block.Reply τ)} (hi : s.phase.internal = false) (hp : s.phase ≠ .idle)
    (hr : s.replies = r :: rs) : runOn s = runOn (answer r { s with replies := rs }) :=
  runOn_tick (tick_call hi hp hr)

/-- Running on from an internal computation. -/
theorem runOn_compute {s : Block.State τ} (hi : s.phase.internal = true) : runOn s = runOn (compute s) :=
  runOn_tick (tick_internal hi)

/-- A packet that the block can emit starts as any other instruction. -/
theorem launchIf_emits {emits : Bool} {start : Block.State τ → Block.State τ} {s : Block.State τ} (h : emits = true) :
    launchIf emits start s = launch start s := by
  simp [launchIf, h]

/-- A packet that the block never emits is refused when nothing is in flight (30_encoding.md R108). -/
theorem launchIf_refuses {start : Block.State τ → Block.State τ} {s : Block.State τ} (h : s.engaged = false) :
    launchIf false start s = .refused .illFormed := by
  simp [launchIf, h]

/-- Everything `launchIf` can go on to. -/
theorem launchIf_next {emits : Bool} {start : Block.State τ → Block.State τ} {s t : Block.State τ} (h : launchIf emits start s = .next t) :
    emits = true ∧ launch start s = .next t := by
  unfold launchIf at h
  split at h
  · cases h
  · rename_i he
    refine ⟨?_, h⟩
    by_contra hn
    rw [launch_engaged (by simpa [hn] using he)] at h
    cases h

/-- Everything one tick can do: one constructor for each line of the pseudocode of files 41 to 44 that a tick runs. -/
inductive TickTo (s : Block.State τ) : Block.State τ → Prop where
  | runErase {r rs} (hp : s.phase = .runCheck) (hr : s.replies = r :: rs) (hg : r.good = true) (ho : s.op = .erase) :
      TickTo s (startCommand (eraseCommand s.cfg s.bank s.args.first s.args.last).1
        (eraseCommand s.cfg s.bank s.args.first s.args.last).2
        { s with replies := rs, trace := s.trace ++ [.run true] })
  | runWrite {r rs} (hp : s.phase = .runCheck) (hr : s.replies = r :: rs) (hg : r.good = true) (ho : s.op = .write) :
      TickTo s (startWrite { s with replies := rs, trace := s.trace ++ [.run true] })
  | runBare {r rs} (hp : s.phase = .runCheck) (hr : s.replies = r :: rs) (hg : r.good = true)
      (ho : s.op = .none ∨ s.op = .probe) :
      TickTo s { s with replies := rs, trace := s.trace ++ [.run true], phase := .idle }
  | runDown {r rs} (hp : s.phase = .runCheck) (hr : s.replies = r :: rs) (hg : r.good = false) :
      TickTo s (raiseError false .targetNotRunning { s with replies := rs, trace := s.trace ++ [.run false] })
  | pollOver {r rs} (hp : s.phase = .drainPoll) (hr : s.replies = r :: rs) (hg : r.good = true)
      (hx : drainExceeded s = true) :
      TickTo s (raiseError false (.transportError (Config.drainLimitError s.trace.length))
        { s with replies := rs, trace := s.trace ++ [.rxp true] })
  | pollWord {r rs} (hp : s.phase = .drainPoll) (hr : s.replies = r :: rs) (hg : r.good = true)
      (hx : drainExceeded s = false) :
      TickTo s { s with replies := rs, trace := s.trace ++ [.rxp true], phase := .drainTake }
  | pollEnd {r rs} (hp : s.phase = .drainPoll) (hr : s.replies = r :: rs) (hg : r.good = false)
      (hw : s.whole = true) :
      TickTo s (startCommand .probe [s.cfg.opcProbe] { s with replies := rs, trace := s.trace ++ [.rxp false] })
  | pollEndBare {r rs} (hp : s.phase = .drainPoll) (hr : s.replies = r :: rs) (hg : r.good = false)
      (hw : s.whole = false) :
      TickTo s { s with replies := rs, trace := s.trace ++ [.rxp false], phase := .idle }
  | drainWord {r rs} (hp : s.phase = .drainTake) (hr : s.replies = r :: rs) (hg : r.good = true) :
      TickTo s { s with
        replies := rs, trace := s.trace ++ [.recv (.word r.word)], drained := s.drained + 1, phase := .drainPoll }
  | drainFail {r rs} (hp : s.phase = .drainTake) (hr : s.replies = r :: rs) (hg : r.good = false) :
      TickTo s (raiseError false (.transportError r.err)
        { s with replies := rs, trace := s.trace ++ [.recv (.err r.err)] })
  | sendOk {n r rs} (hp : s.phase = .send n) (hr : s.replies = r :: rs) (hg : r.good = true) :
      TickTo s { s with
        replies := rs, trace := s.trace ++ [.send (s.stg.words 0 n) none], pstate := .cmdSent, phase := .sent }
  | sendFail {n r rs} (hp : s.phase = .send n) (hr : s.replies = r :: rs) (hg : r.good = false) :
      TickTo s (raiseError true (.transportError r.err)
        { s with replies := rs, trace := s.trace ++ [.send (s.stg.words 0 n) (some r.err)] })
  | handshake (hp : s.phase = .sent) : TickTo s { s with pstate := .awaitingAck, phase := .ackWait }
  | ack {r rs} (hp : s.phase = .ackWait) (hr : s.replies = r :: rs) (hg : r.good = true) :
      TickTo s { s with replies := rs, trace := s.trace ++ [.hs ackTimeoutMs true], phase := .respRead }
  | noAck {r rs} (hp : s.phase = .ackWait) (hr : s.replies = r :: rs) (hg : r.good = false) :
      TickTo s (raiseError true .transportTimeout
        { s with replies := rs, trace := s.trace ++ [.hs ackTimeoutMs false] })
  | response {r rs} (hp : s.phase = .respRead) (hr : s.replies = r :: rs) (hg : r.good = true) :
      TickTo s { s with
        replies := rs, trace := s.trace ++ [.recv (.word r.word)], resp := r.word, pstate := .responseReceived
        phase := .respCheck }
  | responseFail {r rs} (hp : s.phase = .respRead) (hr : s.replies = r :: rs) (hg : r.good = false) :
      TickTo s (raiseError true (.transportError r.err)
        { s with replies := rs, trace := s.trace ++ [.recv (.err r.err)] })
  | doneBare (hp : s.phase = .respCheck) (hd : s.resp = s.cfg.rspDone) (hw : s.whole = false ∨ s.op = .none) :
      TickTo s { s with pstate := .done, phase := .idle }
  | doneProbe (hp : s.phase = .respCheck) (hd : s.resp = s.cfg.rspDone) (hw : s.whole = true) (ho : s.op = .probe) :
      TickTo s { s with pstate := .done, gidx := 0, phase := .geomWait }
  | doneErase (hp : s.phase = .respCheck) (hd : s.resp = s.cfg.rspDone) (hw : s.whole = true) (ho : s.op = .erase) :
      TickTo s (finishOk { s with pstate := .done })
  | doneWrite (hp : s.phase = .respCheck) (hd : s.resp = s.cfg.rspDone) (hw : s.whole = true) (ho : s.op = .write) :
      TickTo s (advance { s with pstate := .done })
  | notDone (hp : s.phase = .respCheck) (hd : s.resp ≠ s.cfg.rspDone) :
      TickTo s (raiseError true (.protocolFailure s.tag s.resp) s)
  | geomAck {r rs} (hp : s.phase = .geomWait) (hr : s.replies = r :: rs) (hg : r.good = true) :
      TickTo s { s with replies := rs, trace := s.trace ++ [.hs s.cfg.geomTimeoutMs true], phase := .geomRead }
  | geomKeep {r rs} (hp : s.phase = .geomWait) (hr : s.replies = r :: rs) (hg : r.good = false)
      (ht : s.cfg.geomTimeoutMs = 0) : TickTo s { s with replies := rs }
  | geomTimeout {r rs} (hp : s.phase = .geomWait) (hr : s.replies = r :: rs) (hg : r.good = false)
      (ht : s.cfg.geomTimeoutMs ≠ 0) :
      TickTo s (raiseError false .transportTimeout
        { s with replies := rs, trace := s.trace ++ [.hs s.cfg.geomTimeoutMs false] })
  | geomWord {r rs} (hp : s.phase = .geomRead) (hr : s.replies = r :: rs) (hg : r.good = true) (hi : s.gidx ≠ 3) :
      TickTo s { s with
        replies := rs, trace := s.trace ++ [.recv (.word r.word)], geom := s.geom.set s.gidx r.word
        gidx := s.gidx + 1, phase := .geomWait }
  | geomLast {r rs} (hp : s.phase = .geomRead) (hr : s.replies = r :: rs) (hg : r.good = true) (hi : s.gidx = 3)
      (hw : s.whole = true) :
      TickTo s { s with
        replies := rs, trace := s.trace ++ [.recv (.word r.word)], geom := s.geom.set 3 r.word
        gidx := 4, phase := .geomCheck }
  | geomLastBare {r rs} (hp : s.phase = .geomRead) (hr : s.replies = r :: rs) (hg : r.good = true) (hi : s.gidx = 3)
      (hw : s.whole = false) :
      TickTo s { s with
        replies := rs, trace := s.trace ++ [.recv (.word r.word)], geom := s.geom.set 3 r.word
        gidx := 4, phase := .idle }
  | geomFail {r rs} (hp : s.phase = .geomRead) (hr : s.replies = r :: rs) (hg : r.good = false) :
      TickTo s (raiseError false (.transportError r.err)
        { s with replies := rs, trace := s.trace ++ [.recv (.err r.err)] })
  | geomAccepted (hp : s.phase = .geomCheck) (hv : s.geom.decode.valid s.cfg = true) :
      TickTo s (finishOk (s.setBank s.geom.decode))
  | geomRejected (hp : s.phase = .geomCheck) (hv : s.geom.decode.valid s.cfg = false) :
      TickTo s (raiseError false .bankInvalid s)
  | chunkNone (hp : s.phase = .chunk) (hn : s.xfer.remaining = 0) : TickTo s (finishOk s)
  | chunkNext (hp : s.phase = .chunk) (hn : s.xfer.remaining ≠ 0) : TickTo s (buildChunk s)

/-- The answer of a call, as `TickTo` lists it. -/
theorem answer_to {s : Block.State τ} {r : Block.Reply τ} {rs : List (Block.Reply τ)} (hr : s.replies = r :: rs) (hi : s.phase.internal = false)
    (hp : s.phase ≠ .idle) : TickTo s (answer r { s with replies := rs }) := by
  unfold answer
  cases hph : s.phase <;> simp only [hph, Phase.internal, reduceCtorEq, ne_eq, not_true_eq_false] at hi hp <;> simp only
  case runCheck =>
    unfold answerRun
    cases hg : r.good
    · simpa [Block.State.log, hph] using TickTo.runDown hph hr hg
    · cases ho : s.op
      · simpa [Block.State.log, hph, ho] using TickTo.runBare hph hr hg (.inl ho)
      · simpa [Block.State.log, hph, ho] using TickTo.runBare hph hr hg (.inr ho)
      · simp only [if_true]
        rw [startErase_eq]
        simpa [Block.State.log, hph, ho] using TickTo.runErase hph hr hg ho
      · simpa [Block.State.log, hph, ho] using TickTo.runWrite hph hr hg ho
  case drainPoll =>
    unfold answerPoll afterDrain
    have hdx : drainExceeded { s with replies := rs } = drainExceeded s := rfl
    cases hg : r.good
    · cases hw : s.whole
      · simpa [Block.State.log, hph, hw] using TickTo.pollEndBare hph hr hg hw
      · simpa [Block.State.log, hph, hw] using TickTo.pollEnd hph hr hg hw
    · cases hx : drainExceeded s
      · have := TickTo.pollWord hph hr hg hx
        simp_all [Block.State.log]
      · have := TickTo.pollOver hph hr hg hx
        simp_all [Block.State.log]
  case drainTake =>
    unfold answerDrain
    cases hg : r.good
    · simpa [Block.State.log, hph] using TickTo.drainFail hph hr hg
    · simpa [Block.State.log, hph] using TickTo.drainWord hph hr hg
  case send n =>
    unfold answerSend
    cases hg : r.good
    · simpa [Block.State.log, hph] using TickTo.sendFail hph hr hg
    · simpa [Block.State.log, hph] using TickTo.sendOk hph hr hg
  case ackWait =>
    unfold answerAck
    cases hg : r.good
    · simpa [Block.State.log, hph] using TickTo.noAck hph hr hg
    · simpa [Block.State.log, hph] using TickTo.ack hph hr hg
  case respRead =>
    unfold answerResponse
    cases hg : r.good
    · simpa [Block.State.log, hph] using TickTo.responseFail hph hr hg
    · simpa [Block.State.log, hph] using TickTo.response hph hr hg
  case geomWait =>
    unfold answerGeomAck
    cases hg : r.good
    · by_cases ht : s.cfg.geomTimeoutMs = 0
      · simpa [Block.State.log, hph, ht] using TickTo.geomKeep hph hr hg ht
      · have ht' : ¬ s.cfg.geomTimeoutMs = 0#32 := ht
        simpa [Block.State.log, hph, ht'] using TickTo.geomTimeout hph hr hg ht
    · simpa [Block.State.log, hph] using TickTo.geomAck hph hr hg
  case geomRead =>
    unfold answerGeomWord afterGeomRead
    cases hg : r.good
    · simpa [Block.State.log, hph] using TickTo.geomFail hph hr hg
    · by_cases hi : s.gidx = 3
      · cases hw : s.whole
        · simpa [Block.State.log, hph, hi, hw] using TickTo.geomLastBare hph hr hg hi hw
        · simpa [Block.State.log, hph, hi, hw] using TickTo.geomLast hph hr hg hi hw
      · have hi' : ¬ s.gidx = 3#3 := hi
        simpa [Block.State.log, hph, hi'] using TickTo.geomWord hph hr hg hi

/-- An internal computation, as `TickTo` lists it. -/
theorem compute_to {s : Block.State τ} (hi : s.phase.internal = true) : TickTo s (compute s) := by
  unfold compute
  cases hph : s.phase <;> simp only [hph, Phase.internal, Bool.false_eq_true] at hi <;> simp only
  case sent => exact .handshake hph
  case respCheck =>
    unfold checkResponse
    by_cases hd : s.resp = s.cfg.rspDone
    · rw [if_pos hd]
      unfold afterCycle
      cases hw : s.whole
      · simpa [hph, hw] using TickTo.doneBare hph hd (.inl hw)
      · cases ho : s.op
        · simpa [hph, hw, ho] using TickTo.doneBare hph hd (.inr ho)
        · simpa [hph, hw, ho, startGeomRead] using TickTo.doneProbe hph hd hw ho
        · simpa [hph, hw, ho] using TickTo.doneErase hph hd hw ho
        · simpa [hph, hw, ho] using TickTo.doneWrite hph hd hw ho
    · rw [if_neg hd]
      exact .notDone hph hd
  case geomCheck =>
    unfold checkGeometry
    cases hv : s.geom.decode.valid s.cfg
    · exact .geomRejected hph hv
    · exact .geomAccepted hph hv
  case chunk =>
    unfold nextChunk
    by_cases hn : s.xfer.remaining = 0
    · rw [if_pos hn]
      exact .chunkNone hph hn
    · rw [if_neg hn]
      exact .chunkNext hph hn

/-- Everything a tick can do. -/
theorem tick_to {s t : Block.State τ} (h : tick s = some t) : TickTo s t := by
  rcases tick_cases h with ⟨hi, rfl⟩ | ⟨hi, hp, r, rs, hr, rfl⟩
  · exact compute_to hi
  · exact answer_to hr hi hp

end Sys2Proof.Machine
end

