-- ==== Sys2Proof/Laws/Events.lean ====
section
/-! SUPPORT. The small lemmas of the event lists of Safety.lean (`staleEvents`, `wordEvents`, `chunkEvents`) and of the state
the block waits in, so that later proofs unfold none of them. -/

namespace Sys2Proof.Machine

@[simp] theorem staleEvents_nil : staleEvents [] = [] := rfl

@[simp] theorem staleEvents_append (ws vs : List Word) : staleEvents (ws ++ vs) = staleEvents ws ++ staleEvents vs :=
  List.flatMap_append ..

@[simp] theorem staleEvents_one (w : Word) : staleEvents [w] = [.rxp true, .recv (.word w)] := rfl

@[simp] theorem wordEvents_nil (p : Params) : wordEvents p [] = [] := rfl

@[simp] theorem wordEvents_cons (p : Params) (w : Word) (ws : List Word) :
    wordEvents p (w :: ws) = .hs p.geomTimeoutMs true :: .recv (.word w) :: wordEvents p ws := rfl

@[simp] theorem wordEvents_append (p : Params) (ws vs : List Word) :
    wordEvents p (ws ++ vs) = wordEvents p ws ++ wordEvents p vs := List.flatMap_append ..

@[simp] theorem chunkEvents_nil (p : Params) (b : Bank) : chunkEvents p b [] = [] := rfl

@[simp] theorem chunkEvents_append (p : Params) (b : Bank) (xs ys : List (Word × List Byte)) :
    chunkEvents p b (xs ++ ys) = chunkEvents p b xs ++ chunkEvents p b ys := List.flatMap_append ..

/-- The events of a geometry read that has `k` words are a first part of the whole read's. -/
theorem wordEvents_take_prefix (p : Params) (g : Geom) (k : Nat) : wordEvents p (g.list.take k) <+: geomEvents p g :=
  ⟨wordEvents p (g.list.drop k), by rw [← wordEvents_append, List.take_append_drop]; rfl⟩

/-- The word received as `G<k>` is the next of the words in order (42_probe.md R175). -/
theorem geom_set_take (g : Geom) (k : BitVec 3) (w : Word) (h : k.toNat < 4) :
    (g.set k w).list.take (k + 1).toNat = g.list.take k.toNat ++ [w] := by
  have hk : k = 0 ∨ k = 1 ∨ k = 2 ∨ k = 3 := by
    revert h
    revert k
    decide
  rcases hk with rfl | rfl | rfl | rfl <;> simp [Geom.set, Geom.list]

variable {τ : Type}

/-- A block in a handshake without a time limit is in `AWAITING_ACK` (20_memory.md R68). -/
theorem waitState_geomWait {s : Block.State τ} (hp : s.phase = .geomWait) (ht : s.cfg.geomTimeoutMs = 0) :
    s.waitState = .awaitingAck := if_pos ⟨hp, ht⟩

/-- Everywhere else it is in the state `PSTATE` names. -/
theorem waitState_elsewhere {s : Block.State τ} (hp : s.phase ≠ .geomWait) : s.waitState = s.pstate :=
  if_neg fun h => hp h.1

/-- Inside the bounded handshake both say `AWAITING_ACK`, where the sequencing registers agree (41_protocol_cycle.md R154). -/
theorem waitState_ackWait {s : Block.State τ} (h : PhaseOk s) (hp : s.phase = .ackWait) : s.waitState = .awaitingAck := by
  rw [waitState_elsewhere (by simp [hp])]
  unfold PhaseOk at h
  rw [hp] at h
  exact h.2

end Sys2Proof.Machine
end

