-- ==== Sys2Proof/Laws/Packet.lean ====
section
/-! SUPPORT. What a legal flash-block packet is, said once (`flashLegal_iff`), with the lanes of packed words and the word count
it rests on. Later proofs cite `flashLegal_iff` and never unfold `flashLegal`. -/

namespace Sys2Proof

/-- The number of packed words. -/
@[simp] theorem length_packWords (payload : List Byte) (o : Word) :
    (packWords payload o).length = packCount (o.toNat % 4) payload.length := by
  simp [packWords]

@[simp] theorem length_unpack (words : List Word) (start n : Nat) : (unpack words start n).length = n := by
  simp [unpack]

@[simp] theorem packCount_of_ne {start n : Nat} (h : n ≠ 0) : packCount start n = dataWords start n := if_neg h

/-- The lane of an alignment is that of the offset within it (30_encoding.md R102). -/
theorem startLane_eq (align offset : Word) : startLane align offset = (offset % align).toNat % 4 := rfl

/-- A lane of a word built from lanes. -/
theorem laneOf_wordOfLanes (l0 l1 l2 l3 : Byte) :
    laneOf (wordOfLanes l0 l1 l2 l3) 0 = l0 ∧ laneOf (wordOfLanes l0 l1 l2 l3) 1 = l1 ∧
      laneOf (wordOfLanes l0 l1 l2 l3) 2 = l2 ∧ laneOf (wordOfLanes l0 l1 l2 l3) 3 = l3 := by
  refine ⟨?_, ?_, ?_, ?_⟩ <;> refine BitVec.eq_of_getLsbD_eq fun i hi => ?_ <;>
    simp only [laneOf, wordOfLanes, BitVec.getLsbD_setWidth, BitVec.getLsbD_ushiftRight, BitVec.getLsbD_append, hi,
      decide_true, Bool.true_and] <;>
    (repeat' split) <;> first | omega | (congr 1; omega)

/-- Everything a legal flash-block packet is (30_encoding.md R98, R102, R108, 20_memory.md R75). -/
theorem flashLegal_iff (p : Params) (len align : Word) (runlen : BitVec 16) (offset : Word) (data : List Word)
    (checksum : Word) :
    flashLegal p len align runlen offset data checksum = true ↔
      align ≠ 0 ∧ runlen ≠ 0 ∧ (offset % align).toNat + runlen.toNat ≤ len.toNat ∧ data.length ≤ len.toNat / 4 ∧
      data = packWords (unpack data (startLane align offset) runlen.toNat) (offset % align) ∧
      checksum = checksumOf p.chksInit data := by
  simp only [flashLegal, Bool.and_eq_true, bne_iff_ne, decide_eq_true_eq, beq_iff_eq, and_assoc]

/-- A legal packet has the data words of its run length and start lane (30_encoding.md R98, R102). -/
theorem flashLegal_length {p : Params} {len align : Word} {runlen : BitVec 16} {offset : Word} {data : List Word}
    {checksum : Word} (h : flashLegal p len align runlen offset data checksum = true) :
    data.length = dataWords (startLane align offset) runlen.toNat := by
  obtain ⟨-, hr, -, -, hd, -⟩ := (flashLegal_iff ..).mp h
  have hr' : runlen.toNat ≠ 0 := fun h0 => hr (by simpa [BitVec.toNat_eq] using h0)
  rw [hd, length_packWords, length_unpack, packCount_of_ne hr', startLane_eq]

end Sys2Proof
end

