-- ==== Sys2Proof/Laws/PerInstr.lean ====
section
/-! SUPPORT. A fact about every instruction as syntax, one lemma per constructor: the number of words of its encoding, for
every parameter and every device buffer under which it is well formed (30_encoding.md R95 to R98, R103, R104); none for the
instructions without an encoding (R92, R111). -/

namespace Sys2Proof.Laws

/-- The number of words the formats give an instruction. -/
def wireWords (align : Word) : Instr → Option Nat
  | .wireProbe => some 1
  | .wireEraseAll => some 1
  | .wireEraseBlock _ _ => some 3
  | .wireFlashBlock runlen offset _ _ => some (3 + dataWords (startLane align offset) runlen.toNat)
  | .respDone _ => some 1
  | .respGeometry _ _ _ _ => some 4
  | .hostProbe => none
  | .hostErase _ _ => none
  | .hostWrite _ _ => none
  | .pack _ _ => none
  | .cycle _ _ => none
  | .drain => none
  | .geomRead => none

/-- The encoding has the length of its format. -/
def WireLength.Statement (i : Instr) : Prop :=
  ∀ (p : Params) (len align : Word), i.wf p len align = true → (encode p i).map List.length = wireWords align i

theorem WireLength.wireProbe : WireLength.Statement .wireProbe := fun _ _ _ _ => rfl

theorem WireLength.wireEraseAll : WireLength.Statement .wireEraseAll := fun _ _ _ _ => rfl

theorem WireLength.wireEraseBlock (first last : Word) : WireLength.Statement (.wireEraseBlock first last) :=
  fun _ _ _ _ => rfl

theorem WireLength.wireFlashBlock (runlen : BitVec 16) (offset : Word) (data : List Word) (checksum : Word) :
    WireLength.Statement (.wireFlashBlock runlen offset data checksum) := by
  intro p len align h
  have hl : data.length = dataWords (startLane align offset) runlen.toNat := flashLegal_length h
  simp only [encode, wireWords, Option.map_some, List.length_cons, List.length_append, List.length_nil, hl]
  congr 1
  omega

theorem WireLength.respDone (code : Word) : WireLength.Statement (.respDone code) := fun _ _ _ _ => rfl

theorem WireLength.respGeometry (g0 g1 g2 g3 : Word) : WireLength.Statement (.respGeometry g0 g1 g2 g3) :=
  fun _ _ _ _ => rfl

theorem WireLength.hostProbe : WireLength.Statement .hostProbe := fun _ _ _ _ => rfl

theorem WireLength.hostErase (first last : Word) : WireLength.Statement (.hostErase first last) := fun _ _ _ _ => rfl

theorem WireLength.hostWrite (offset : Word) (payload : List Byte) : WireLength.Statement (.hostWrite offset payload) :=
  fun _ _ _ _ => rfl

theorem WireLength.pack (payload : List Byte) (o : Word) : WireLength.Statement (.pack payload o) := fun _ _ _ _ => rfl

theorem WireLength.cycle (tag : Tag) (packet : List Word) : WireLength.Statement (.cycle tag packet) := fun _ _ _ _ => rfl

theorem WireLength.drain : WireLength.Statement .drain := fun _ _ _ _ => rfl

theorem WireLength.geomRead : WireLength.Statement .geomRead := fun _ _ _ _ => rfl

end Sys2Proof.Laws
end

