-- ==== Sys2Proof/Laws/Relabel.lean ====
section
/-! SUPPORT. What a state is under other names of its TransportErrors: one lemma per field, and that the flags are the same. -/

namespace Sys2Proof.Machine

variable {α β : Type} (f : TransportErr α → TransportErr β)

@[simp] theorem relabel_bank (s : Block.State α) : (s.relabel f).bank = s.bank := rfl
@[simp] theorem relabel_op (s : Block.State α) : (s.relabel f).op = s.op := rfl
@[simp] theorem relabel_pstate (s : Block.State α) : (s.relabel f).pstate = s.pstate := rfl
@[simp] theorem relabel_tag (s : Block.State α) : (s.relabel f).tag = s.tag := rfl
@[simp] theorem relabel_gidx (s : Block.State α) : (s.relabel f).gidx = s.gidx := rfl
@[simp] theorem relabel_geom (s : Block.State α) : (s.relabel f).geom = s.geom := rfl
@[simp] theorem relabel_xfer (s : Block.State α) : (s.relabel f).xfer = s.xfer := rfl
@[simp] theorem relabel_stg (s : Block.State α) : (s.relabel f).stg = s.stg := rfl
@[simp] theorem relabel_packer (s : Block.State α) : (s.relabel f).packer = s.packer := rfl
@[simp] theorem relabel_packed (s : Block.State α) : (s.relabel f).packed = s.packed := rfl
@[simp] theorem relabel_resp (s : Block.State α) : (s.relabel f).resp = s.resp := rfl
@[simp] theorem relabel_cfg (s : Block.State α) : (s.relabel f).cfg = s.cfg := rfl
@[simp] theorem relabel_args (s : Block.State α) : (s.relabel f).args = s.args := rfl
@[simp] theorem relabel_phase (s : Block.State α) : (s.relabel f).phase = s.phase := rfl
@[simp] theorem relabel_whole (s : Block.State α) : (s.relabel f).whole = s.whole := rfl
@[simp] theorem relabel_drained (s : Block.State α) : (s.relabel f).drained = s.drained := rfl
@[simp] theorem relabel_calls (s : Block.State α) : (s.relabel f).calls = s.calls := rfl
@[simp] theorem relabel_resetLine (s : Block.State α) : (s.relabel f).resetLine = s.resetLine := rfl
@[simp] theorem relabel_err (s : Block.State α) : (s.relabel f).err = s.err.relabel f := rfl
@[simp] theorem relabel_replies (s : Block.State α) : (s.relabel f).replies = s.replies.map (Block.Reply.relabel f) := rfl
@[simp] theorem relabel_trace (s : Block.State α) : (s.relabel f).trace = s.trace.map (Block.Event.relabel f) := rfl
@[simp] theorem relabel_results (s : Block.State α) : (s.relabel f).results = s.results.map (Block.OpResult.relabel f) := rfl

@[simp] theorem relabel_probed (s : Block.State α) : (s.relabel f).probed = s.probed := rfl
@[simp] theorem relabel_engaged (s : Block.State α) : (s.relabel f).engaged = s.engaged := rfl
@[simp] theorem relabel_good (r : Block.Reply α) : (r.relabel f).good = r.good := rfl
@[simp] theorem relabel_word (r : Block.Reply α) : (r.relabel f).word = r.word := rfl
@[simp] theorem relabel_replyErr (r : Block.Reply α) : (r.relabel f).err = f r.err := rfl
@[simp] theorem relabel_kind (e : Block.ErrInfo α) : (e.relabel f).kind = e.kind := by cases e <;> rfl

end Sys2Proof.Machine
end

