-- ==== Sys2Proof/Tests/Slice0.lean ====
section
/-! SUPPORT. Tests. The expected values come from spec/95_test_vectors.md (the vector's name stands in each comment) or are
worked out by hand from the rule named. The witnesses for the statements' hypotheses stand at the end. -/

namespace Sys2Proof.Tests

open Sys2Proof.Machine

/-! ### Helpers -/

/-- The state an outcome goes on to. -/
def nextOf : Host.Outcome State Fault Refusal → Option State
  | .next s => some s
  | .fault _ => none
  | .refused _ => none

/-- The refusal of an outcome. -/
def refusalOf : Host.Outcome State Fault Refusal → Option Refusal
  | .next _ => none
  | .fault _ => none
  | .refused r => some r

/-- The fault of an outcome. -/
def faultOf : Host.Outcome State Fault Refusal → Option Fault
  | .next _ => none
  | .fault f => some f
  | .refused _ => none

/-- An answer that is ok, ack or true, with a word. -/
def good (w : Word) : Reply := ⟨true, w, ⟨0⟩⟩

/-- An answer that is an error, a timeout or false. -/
def bad : Reply := ⟨false, 0, ⟨7⟩⟩

/-- The default sentinel (00_scope.md R9). -/
def sentinel : Word := 0x0ACD0000

/-- A cycle answered with a word. -/
def answered (w : Word) : CycleReplies := ⟨good 0, good 0, good w⟩

/-- The bank of vector V1. -/
def bank16 : Bank := ⟨0x00100000, 0x00010000, 16, 0x1000, 0x1000⟩

/-- The bank of program P5. -/
def bank4 : Bank := ⟨0x08000000, 0x40, 4, 8, 4⟩

/-- A probed block with the environment's answers. -/
def ready (b : Bank) (rs : List Reply) : State := { State.reset with bank := b, replies := rs }

/-- The four geometry words, each after its handshake. -/
def geometry (g0 g1 g2 g3 : Word) : List Reply :=
  [good 0, good g0, good 0, good g1, good 0, good g2, good 0, good g3]

/-! ### WellFormed: each check refuses an ill-formed term -/

/-- P5's first packet; with one data word too few, with another checksum, with another byte in a filler lane before the payload
and after it, the checksum following (R98, R135, R136). -/
theorem test_wf_flash_block_contents :
    (Instr.wireFlashBlock 5 3 [0xA0FFFFFF, 0xA4A3A2A1] 0xC55C9052).wf Params.default 8 4 = true ∧
      (Instr.wireFlashBlock 5 3 [0xA0FFFFFF] 0x61FF32F3).wf Params.default 8 4 = false ∧
      (Instr.wireFlashBlock 5 3 [0xA0FFFFFF, 0xA4A3A2A1] 0xC55C9053).wf Params.default 8 4 = false ∧
      (Instr.wireFlashBlock 5 3 [0xA0FFFF00, 0xA4A3A2A1] 0xC55C90AD).wf Params.default 8 4 = false ∧
      (Instr.wireFlashBlock 4 3 [0xA0FFFFFF, 0xA4A3A2A1] 0xC55C9052).wf Params.default 8 4 = false := by decide

/-- R98, R108, R75, with the right checksum and filler: a run length of 0, the largest, the same leaving the device buffer (with
the alignment 8), one above `BUF_LEN`, and any on an unprobed block. -/
theorem test_wf_flash_block_run_length :
    (Instr.wireFlashBlock 0 4 [] 0xC100CD0C).wf Params.default 8 4 = false ∧
      (Instr.wireFlashBlock 8 4 [0xFFFFFFFF, 0xFFFFFFFF] 0xC100CD0C).wf Params.default 8 4 = true ∧
      (Instr.wireFlashBlock 8 4 [0xFFFFFFFF, 0xFFFFFFFF] 0xC100CD0C).wf Params.default 8 8 = false ∧
      (Instr.wireFlashBlock 9 0 [0xFFFFFFFF, 0xFFFFFFFF, 0xFFFFFFFF] 0x3EFF32F3).wf Params.default 8 4 = false ∧
      (Instr.wireFlashBlock 1 0 [0xFFFFFF00] 0x3EFF320C).wf Params.default 0 0 = false := by decide

/-- The same inside CYCLE. -/
theorem test_wf_cycle_flash_block :
    (Instr.cycle .flashBlock [0x0CFB0000, 4, 0xC100CD0C]).wf Params.default 8 4 = false ∧
      (Instr.cycle .flashBlock [0x0CFB0004, 4, 7, 0xC100CD0B]).wf Params.default 8 4 = true ∧
      (Instr.cycle .flashBlock [0x0CFB0004, 4, 7, 0]).wf Params.default 8 4 = false := by decide

theorem test_wf_cycle_packet_of_another_tag :
    (Instr.cycle .eraseAll [0x0CEA0000]).wf Params.default 8 4 = true ∧
      (Instr.cycle .probe [0x0CEA0000]).wf Params.default 8 4 = false := by decide

theorem test_wf_cycle_more_than_one_command :
    (Instr.cycle .eraseAll [0x0CEA0000, 0x0CEA0000]).wf Params.default 8 4 = false := by decide

theorem test_wf_write_payload_no_u32 (o : Word) :
    (Instr.hostWrite o (List.replicate (2 ^ 32) 0)).wf Params.default 8 4 = false := by
  simp only [Instr.wf, List.length_replicate, lt_self_iff_false, decide_false]

theorem test_wf_pack_payload_no_u32 (o : Word) :
    (Instr.pack (List.replicate (2 ^ 32) 0) o).wf Params.default 8 4 = false := by
  simp only [Instr.wf, List.length_replicate, lt_self_iff_false, decide_false]

theorem test_step_refuses_ill_formed :
    refusalOf (step { State.reset with calls := [.part (.cycle .probe [0x0CEA0000])] }) = some .illFormed := by decide

/-! ### Decode: words written out from the formats of 30_encoding.md -/

/-- R95: `OPC_PROBE` is 0x0CBE in [31:16] and 0 in [15:0]. -/
theorem test_decode_probe :
    decodeCommand Params.default 4 [(0x0CBE : BitVec 16) ++ (0 : BitVec 16), 7] = .ok (.wireProbe, [7]) := by decide

/-- R96. -/
theorem test_decode_erase_all :
    decodeCommand Params.default 4 [(0x0CEA : BitVec 16) ++ (0 : BitVec 16)] = .ok (.wireEraseAll, []) := by decide

/-- R97: word 1 is the first sector, word 2 the last. -/
theorem test_decode_erase_block :
    decodeCommand Params.default 4 [(0x0CEB : BitVec 16) ++ (0 : BitVec 16), 5, 2, 9] =
      .ok (.wireEraseBlock 5 2, [9]) := by decide

/-- R98, program P5's first packet: run length 5 in [15:0], offset 3, two data words, the checksum. -/
theorem test_decode_flash_block :
    decodeCommand Params.default 4
        [(0x0CFB : BitVec 16) ++ (5 : BitVec 16), 3, 0xA0FFFFFF, 0xA4A3A2A1, 0xC55C9052, 0x0CEA0000] =
      .ok (.wireFlashBlock 5 3 [0xA0FFFFFF, 0xA4A3A2A1] 0xC55C9052, [0x0CEA0000]) := by decide

/-- R103: any word is a response. -/
theorem test_decode_response : decodeResponse [0x0ACE0000] = .ok (.respDone 0x0ACE0000, []) := by decide

/-- R104: four words in order; `G3` is the length in [15:0] and the alignment in [31:16]. -/
theorem test_decode_geometry :
    decodeGeometry [0x00100000, 0x00010000, 0x10, (0x0004 : BitVec 16) ++ (0x1002 : BitVec 16)] =
        .ok (.respGeometry 0x00100000 0x00010000 0x10 0x00041002, []) ∧
      (Geom.decode ⟨0, 0, 0, 0x00041002⟩).bufLen = 0x1002 ∧ (Geom.decode ⟨0, 0, 0, 0x00041002⟩).bufAlign = 4 := by
  decide

theorem test_decode_rejects :
    decodeCommand Params.default 4 [] = .error .empty ∧
      decodeCommand Params.default 4 [0x0CEB0000, 1] = .error (.truncated 0x0CEB0000) ∧
      decodeCommand Params.default 4 [0x0CFB0005, 3, 0] = .error (.truncated 0x0CFB0005) ∧
      decodePacket Params.default 4 [0x0CEA0001] = .error (.unknownOpcode 0x0CEA0001) ∧
      decodeCommand Params.default 0 [0x0CFB0001, 0, 0, 0] = .error (.noStartLane 0x0CFB0001) ∧
      decodeGeometry [1, 2, 3] = .error .shortGeometry := by decide

/-! ### A fetched word runs as the first instruction after reset -/

theorem test_step_runs_fetched_commands :
    (nextOf (step (State.reset.withFetchWord 32 0x0CBE0000))).map (fun t => (t.phase, t.tag)) =
        some (.send 1, .probe) ∧
      (nextOf (step (State.reset.withFetchWord 96 0x00000003000000020CEB0000))).map (fun t => t.stg) =
        some [(0, 0x0CEB0000), (1, 2), (2, 3)] ∧
      (nextOf (step (State.reset.withFetchWord 128 0x3EFF320CFFFFFF00000000000CFB0001))).map (fun t => (t.phase, t.tag)) =
        some (.send 4, .flashBlock) := by decide

/-- R108: the block never emits a run length of 0, nor another checksum than R98's. -/
theorem test_step_refuses_illegal_flash_block :
    decodeTableWord 32 0x0CFB0000 = some (.wireFlashBlock 0 0 [] 0) ∧
      refusalOf (step (State.reset.withFetchWord 32 0x0CFB0000)) = some .illFormed ∧
      refusalOf (step (State.reset.withFetchWord 32 0x0CFB0001)) = some .illFormed := by decide

theorem test_step_runs_fetched_response :
    (nextOf (step (State.reset.withFetchWord 32 0x0ACD0000))).map (fun t => (t.resp, t.pstate, t.phase)) =
      some (0x0ACD0000, .done, .idle) := by decide

/-! ### PACK (vectors K4, K14) -/

theorem test_pack_k4 :
    (nextOf (exec (.pack [1, 2, 3, 4] 2) (ready bank16 []))).map
        (fun t => (t.stg, t.packed, t.packer.chkSum, t.packer.nWords)) =
      some ([(2, 0x0201FFFF), (3, 0xFFFF0403)], [0x0201FFFF, 0xFFFF0403], 0x3CFE36F0, 2) := by decide

/-- K4 on an unprobed block: the same result, and only word 2 of `STG`'s three (R41). -/
theorem test_pack_k4_unprobed :
    (nextOf (exec (.pack [1, 2, 3, 4] 2) State.reset)).map
        (fun t => (t.stg, t.packed, t.packer.chkSum, t.packer.nWords)) =
      some ([(2, 0x0201FFFF)], [0x0201FFFF, 0xFFFF0403], 0x3CFE36F0, 2) := by decide

theorem test_pack_k14 :
    (nextOf (exec (.pack [] 1) State.reset)).map (fun t => (t.stg, t.packer.chkSum, t.packer.nWords)) =
      some ([], 0xC100CD0C, 0) := by decide

/-! ### Command cycles (vectors Y1, Y3, Y5, Y6) -/

theorem test_cycle_y3 :
    (nextOf (exec (.cycle .eraseAll [0x0CEA0000]) (ready bank16 (answered 0x0ACD0001).list))).map
        (fun t => (t.pstate, t.err.kind, t.err.tag, t.err.raw)) =
      some (.failed, .protocolFailure, .eraseAll, 0x0ACD0001) := by decide

theorem test_cycle_y5 :
    (nextOf (exec (.cycle .eraseAll [0x0CEA0000]) (ready bank16 [good 0, bad]))).map
        (fun t => (t.pstate, t.err.kind, t.trace)) =
      some (.failed, .transportTimeout, [.send [0x0CEA0000] none, .hs 1000 false]) := by decide

theorem test_erase_all_y1 :
    (nextOf (exec .wireEraseAll (ready bank16 (answered sentinel).list))).map (fun t => (t.pstate, t.trace)) =
      some (.done, [.send [0x0CEA0000] none, .hs 1000 true, .recv (.word 0x0ACD0000)]) := by decide

theorem test_probe_y6 :
    (nextOf (exec .wireProbe (ready bank16 [bad]))).map (fun t => (t.pstate, t.err.transport, t.bank, t.trace)) =
      some (.failed, ⟨7⟩, bank16, [.send [0x0CBE0000] (some ⟨7⟩)]) := by decide

/-- E9's packet: the operands verbatim and unchecked. -/
theorem test_erase_block_e9 :
    (nextOf (exec (.wireEraseBlock 5 2) (ready bank16 (answered sentinel).list))).map (fun t => (t.pstate, t.trace)) =
      some (.done, [.send [0x0CEB0000, 5, 2] none, .hs 1000 true, .recv (.word 0x0ACD0000)]) := by decide

/-- P5's first packet. -/
theorem test_flash_block_p5 :
    (nextOf (exec (.wireFlashBlock 5 3 [0xA0FFFFFF, 0xA4A3A2A1] 0xC55C9052)
        (ready bank4 (answered sentinel).list))).map (fun t => (t.tag, t.trace)) =
      some (.flashBlock, [.send [0x0CFB0005, 3, 0xA0FFFFFF, 0xA4A3A2A1, 0xC55C9052] none, .hs 1000 true,
        .recv (.word 0x0ACD0000)]) := by decide

/-! ### Responses -/

/-- E12: the response word of an ERASE of two sectors. -/
def erasing : State :=
  { ready bank16 [] with op := .erase, whole := true, pstate := .awaitingAck, phase := .respRead, tag := .eraseBlock }

theorem test_response_e12 :
    (nextOf (exec (.respDone 0x0ACE0000) erasing)).map (fun t => (t.results, t.bank, t.op)) =
      some ([.err (.protocolFailure .eraseBlock 0x0ACE0000) none], bank16, .none) := by decide

theorem test_response_e5 :
    (nextOf (exec (.respDone 0x0ACD0000) erasing)).map (fun t => (t.results, t.pstate, t.resp)) =
      some ([.ok], .done, 0x0ACD0000) := by decide

/-- A PROBE at its geometry read. -/
def probing : State := { ready bank16 [] with op := .probe, whole := true, pstate := .done, phase := .geomWait }

/-- V2: the alignment is read as 1. -/
theorem test_geometry_v2 :
    (nextOf (exec (.respGeometry 0x00100000 0x00010000 0x10 0x00000400) probing)).map (fun t => (t.results, t.bank)) =
      some ([.ok], ⟨0x00100000, 0x00010000, 0x10, 0x400, 1⟩) := by decide

/-- V10: check (e) fails, and the old bank is gone. -/
theorem test_geometry_v10 :
    (nextOf (exec (.respGeometry 0x00100000 0x00010000 0x10 0x00041002) probing)).map (fun t => (t.results, t.bank)) =
      some ([.err .bankInvalid none], Bank.unprobed) := by decide

/-- A stale word that comes while the drain receives is discarded (R171), and one at the geometry read is `G<GIDX>` (R175). -/
theorem test_response_at_other_receives :
    (nextOf (exec (.respDone 0x0ACD0000) { probing with phase := .drainTake })).map (fun t => (t.phase, t.drained, t.resp)) =
        some (.drainPoll, 1, 0) ∧
      (nextOf (exec (.respDone 0x0ACD0000) { probing with phase := .geomRead, gidx := 1 })).map
        (fun t => (t.phase, t.geom, t.gidx)) = some (.geomWait, ⟨0, 0x0ACD0000, 0, 0⟩, 2) := by decide

/-- The six checks, one vector each (V3, V4, V6, V8, V9, V11), and the accepted corners V13 to V16. -/
theorem test_geometry_vectors :
    (Geom.decode ⟨0, 0x10000, 0, 0x10001000⟩).valid Params.default = false ∧
      (Geom.decode ⟨0, 0x10001, 0x10, 0x10001000⟩).valid Params.default = false ∧
      (Geom.decode ⟨0, 0x10000, 0x10, 0x00000000⟩).valid Params.default = false ∧
      (Geom.decode ⟨0, 0x10000, 0x10, 0x00080004⟩).valid Params.default = false ∧
      (Geom.decode ⟨0, 0x10000, 0x10, 0x00060009⟩).valid Params.default = false ∧
      (Geom.decode ⟨0, 0x10000, 0x10, 0x00030006⟩).valid Params.default = false ∧
      (Geom.decode ⟨0, 0, 4, 0x00040008⟩).valid Params.default = true ∧
      (Geom.decode ⟨0, 0x10000, 1, 0xFFFCFFFC⟩).valid Params.default = true ∧
      (Geom.decode ⟨0, 0x30, 3, 0x0006000C⟩).valid Params.default = true ∧
      (Geom.decode ⟨0, 0xFFFFFFFF, 0xFFFFFFFF, 0x00040004⟩).valid Params.default = true := by decide

/-! ### PROBE (P1 with a stale word, P6), DRAIN, GEOMREAD -/

theorem test_probe_p1s :
    (nextOf (exec .hostProbe { State.reset with
        replies := [good 0, good 0x0ACD0000, bad] ++ (answered sentinel).list ++
          geometry 0x00100000 0x00010000 0x10 0x10001000 })).map (fun t => (t.results, t.bank, t.trace)) =
      some ([.ok], bank16,
        [.rxp true, .recv (.word 0x0ACD0000), .rxp false, .send [0x0CBE0000] none, .hs 1000 true,
          .recv (.word 0x0ACD0000), .hs 0 true, .recv (.word 0x00100000), .hs 0 true, .recv (.word 0x00010000),
          .hs 0 true, .recv (.word 0x10), .hs 0 true, .recv (.word 0x10001000)]) := by decide

/-- Section 2.3: a response that is not the sentinel, with no geometry read, unprobes the block. -/
theorem test_probe_protocol_failure :
    (nextOf (exec .hostProbe (ready bank16 (bad :: (answered 0x0ACE0000).list)))).map
        (fun t => (t.results, t.bank, t.pstate)) =
      some ([.err (.protocolFailure .probe 0x0ACE0000) none], Bank.unprobed, .failed) := by decide

theorem test_drain_two_words :
    (nextOf (exec .drain (ready bank16 [good 0, good 5, good 0, good 6, bad]))).map
        (fun t => (t.drained, t.trace, t.bank)) =
      some (2, [.rxp true, .recv (.word 5), .rxp true, .recv (.word 6), .rxp false], bank16) := by decide

theorem test_geomread_order :
    (nextOf (exec .geomRead (ready bank16 (geometry 1 2 3 4)))).map (fun t => (t.geom, t.gidx, t.bank)) =
      some (⟨1, 2, 3, 4⟩, 4, bank16) := by decide

/-! ### ERASE (E1, E4, E6) -/

theorem test_erase_e4 :
    (nextOf (exec (.hostErase 0 15) (ready bank16 (good 0 :: (answered sentinel).list)))).map
        (fun t => (t.results, t.trace)) =
      some ([.ok], [.run true, .send [0x0CEA0000] none, .hs 1000 true, .recv (.word 0x0ACD0000)]) := by decide

theorem test_erase_e6 :
    (nextOf (exec (.hostErase 0 14) (ready bank16 (good 0 :: (answered sentinel).list)))).map
        (fun t => (t.results, t.trace)) =
      some ([.ok], [.run true, .send [0x0CEB0000, 0, 14] none, .hs 1000 true, .recv (.word 0x0ACD0000)]) := by decide

/-! ### WRITE (P3, P4) -/

theorem test_write_p3 :
    (nextOf (exec (.hostWrite 0x0FFE [0xDE, 0xAD, 0xBE, 0xEF, 0x01, 0x02])
        (ready bank16 (good 0 :: ((answered sentinel).list ++ (answered sentinel).list))))).map
        (fun t => (t.results, t.trace, t.xfer.curOffset, t.xfer.payPos)) =
      some ([.ok], [.run true,
        .send [0x0CFB0002, 0x00000FFE, 0xADDEFFFF, 0x6CDE32F3] none, .hs 1000 true, .recv (.word 0x0ACD0000),
        .send [0x0CFB0004, 0x00001000, 0x0201EFBE, 0xC30122B2] none, .hs 1000 true, .recv (.word 0x0ACD0000)],
        0x1004, 6) := by decide

theorem test_write_p4 :
    (nextOf (exec (.hostWrite 0x0FFE [0xDE, 0xAD, 0xBE, 0xEF, 0x01, 0x02])
        (ready bank16 (good 0 :: ((answered sentinel).list ++ [good 0, bad]))))).map
        (fun t => (t.results, t.err.failOffset, t.xfer.remaining, t.pstate, t.bank)) =
      some ([.err .transportTimeout (some 0x1000)], 0x1000, 4, .failed, bank16) := by decide

/-- The chunks of W5 and W7. -/
theorem test_chunks_w5_w7 :
    (chunksOf ⟨0, 0, 1, 8, 4⟩ (List.replicate 9 0) 3).map (fun c => (c.1, c.2.length)) = [(3, 9), (8, 4)] ∧
      (chunksOf ⟨0, 0, 1, 8, 2⟩ (List.replicate 12 0) 6).map (fun c => (c.1, c.2.length)) = [(6, 12), (0xE, 4)] := by
  decide

/-! ### Witnesses: a concrete state and operands that meet the hypotheses of each statement -/

/-- What `nextOf` says of an outcome. -/
theorem nextOf_some {o : Host.Outcome State Fault Refusal} {t : State} (h : nextOf o = some t) : o = .next t := by
  cases o <;> simp_all [nextOf]

theorem sound_bank4 : BankSound bank4 := by constructor <;> decide

theorem sound_bank16 : BankSound bank16 := by constructor <;> decide

/-- An ERASE submitted to a probed block. -/
def submitted : State := { ready bank16 (good 0 :: (answered sentinel).list) with calls := [.host (.erase 0 15)] }

theorem witness_StepKeepsInvariant :
    Inv submitted ∧ ∃ t, step submitted = .next t ∧ t.results = [.ok] :=
  ⟨⟨by decide, rfl, rfl, (fun _ h => nomatch h), .inr sound_bank16, ⟨rfl, rfl⟩, fun h => absurd rfl h⟩,
    _, nextOf_some (by rfl), by decide⟩

theorem witness_StepRunsFetchedInstruction_host :
    submitted.resetLine = false ∧ (Instr.hostErase 0 15).wf submitted.cfg submitted.bank.bufLen submitted.bank.bufAlign = true ∧
      submitted.phase = .idle ∧ submitted.calls = .host (.erase 0 15) :: [] ∧
      (HostOp.erase 0 15).instr = .hostErase 0 15 := by decide

theorem witness_StepRunsFetchedInstruction_part :
    let s : State := { State.reset with calls := [.part (.pack [1] 3)] }
    s.resetLine = false ∧ (Instr.pack [1] 3).wf s.cfg s.bank.bufLen s.bank.bufAlign = true ∧ s.phase = .idle ∧
      s.calls = .part (.pack [1] 3) :: [] := by decide

theorem witness_StepRunsFetchedInstruction_packet :
    let s : State := { State.reset with calls := [.packet [0x0CEB0000, 2, 3]] }
    s.resetLine = false ∧ (Instr.wireEraseBlock 2 3).wf s.cfg s.bank.bufLen s.bank.bufAlign = true ∧ s.phase = .idle ∧
      s.calls = .packet [0x0CEB0000, 2, 3] :: [] ∧
      decodePacket s.cfg s.bank.bufAlign [0x0CEB0000, 2, 3] = .ok (.wireEraseBlock 2 3, []) := by decide

theorem witness_StepRunsFetchedInstruction_response :
    let s : State := { erasing with replies := [good sentinel] }
    s.resetLine = false ∧ (Instr.respDone sentinel).wf s.cfg s.bank.bufLen s.bank.bufAlign = true ∧ s.phase = .respRead ∧
      s.replies = good sentinel :: [] ∧ (good sentinel).good = true := by decide

theorem witness_ResetAbandonsTheOperation : { erasing with resetLine := true }.resetLine = true := rfl

theorem witness_WaitingChangesNothing_idle :
    (ready bank16 []).resetLine = false ∧ (ready bank16 []).phase = .idle ∧ (ready bank16 []).calls = [] := by decide

theorem witness_WaitingChangesNothing_call :
    erasing.resetLine = false ∧ erasing.phase ≠ .idle ∧ erasing.phase.internal = false ∧ erasing.replies = [] := by
  decide

theorem witness_StepKeepsParametersAndHistory : ∃ t, step submitted = .next t ∧ t.trace.length = 4 :=
  ⟨_, nextOf_some (by rfl), by decide⟩

theorem witness_DecodeEncodeRoundTrip :
    Params.default.wf ∧ (4 : Word) ≠ 0 ∧
      [(0xA0FFFFFF : Word), 0xA4A3A2A1].length = ((3 : Word).toNat % (4 : Word).toNat % 4 + (5 : BitVec 16).toNat + 3) / 4 ∧
      encode Params.default (.wireFlashBlock 5 3 [0xA0FFFFFF, 0xA4A3A2A1] 0xC55C9052) =
        some [0x0CFB0005, 3, 0xA0FFFFFF, 0xA4A3A2A1, 0xC55C9052] := by decide

theorem witness_DecodedCommandEncodesBack :
    Params.default.wf ∧ decodeCommand Params.default 4 [0x0CFB0001, 7, 0x11FFFFFF, 0, 9] =
      .ok (.wireFlashBlock 1 7 [0x11FFFFFF] 0, [9]) := by decide

/-- The word next to an opcode, and one whose low half is not zero. -/
theorem witness_UnknownOpcodeIsRejected :
    ∀ w ∈ [(0x0CFC0000 : Word), 0x0CEA0001, 0], w ≠ Params.default.rspDone ∧ w ≠ Params.default.opcProbe ∧
      w ≠ Params.default.opcEraseAll ∧ w ≠ Params.default.opcEraseBlock ∧
      w.toNat / 2 ^ 16 ≠ Params.default.opcFlashBlock.toNat / 2 ^ 16 := by
  simp [Params.default]

theorem witness_PackExecutes :
    (ready bank16 []).engaged = false ∧ (ready bank16 []).stg.wf = true ∧ [(0x10 : Byte), 0x20].length < 2 ^ 32 ∧
      (packWords [0x10, 0x20] 3)[1]? = some 0xFFFFFF20 := by decide

theorem witness_PackSequentialIsClosedForm :
    Memory.wf [(0, 5), (3, 9)] = true ∧ [(0x10 : Byte), 0x20].length < 2 ^ 32 := by decide

/-- K6: lane 2 of word 0 holds no payload byte, and lane 3 of word 1 none. -/
theorem witness_PackRoundTripAndFiller :
    (packWords [0x10, 0x20, 0x30, 0x40] 3)[0]? = some 0x10FFFFFF ∧ 4 * 0 + 2 < (3 : Word).toNat % 4 ∧
      (packWords [0x10, 0x20, 0x30, 0x40] 3)[1]? = some 0xFF403020 ∧
      (3 : Word).toNat % 4 + [(0x10 : Byte), 0x20, 0x30, 0x40].length ≤ 4 * 1 + 3 := by decide

theorem witness_PackWordCount : [(0x10 : Byte)] ≠ [] ∧ ([] : List Byte) = [] ∧ (4 : Word).toNat % 4 = 0 := by decide

/-- The change of K1's first byte that section 2.1 works out. -/
theorem witness_PackChecksumSeesOneByte :
    [(0x11 : Byte), 0x22, 0x33, 0x44][0]? = some 0x11 ∧ (0x11 : Byte) ≠ 0x10 ∧
      checksumOf 0xC100CD0C (packWords ([0x11, 0x22, 0x33, 0x44].set 0 0x10) 0) = 0x8533EF1C := by decide

theorem witness_PackedWordsKeepOtherFlashBytes :
    (packWords [0xDE, 0xAD] 2)[0]? = some 0xADDEFFFF ∧ 4 * 0 + 1 < (2 : Word).toNat % 4 ∧
      (2 : Word).toNat % 4 ≤ 4 * 0 + 3 ∧ [(0xDE : Byte), 0xAD][4 * 0 + 3 - (2 : Word).toNat % 4]? = some 0xAD := by
  decide

/-- One instruction of each of the five forms, with its command, well formed for P5's bank; the flash-block with the most data
words that its buffer takes. -/
theorem witness_WireCommands :
    let p := Params.default
    let l := bank4.bufLen
    let a := bank4.bufAlign
    (commandOf p .wireProbe = some (.probe, [0x0CBE0000]) ∧ Instr.wf p l a .wireProbe = true) ∧
      (commandOf p .wireEraseAll = some (.eraseAll, [0x0CEA0000]) ∧ Instr.wf p l a .wireEraseAll = true) ∧
      (commandOf p (.wireEraseBlock 2 3) = some (.eraseBlock, [0x0CEB0000, 2, 3]) ∧
        Instr.wf p l a (.wireEraseBlock 2 3) = true) ∧
      (commandOf p (.wireFlashBlock 5 3 [0xA0FFFFFF, 0xA4A3A2A1] 0xC55C9052) =
          some (.flashBlock, [0x0CFB0005, 3, 0xA0FFFFFF, 0xA4A3A2A1, 0xC55C9052]) ∧
        Instr.wf p l a (.wireFlashBlock 5 3 [0xA0FFFFFF, 0xA4A3A2A1] 0xC55C9052) = true) ∧
      (commandOf p (.cycle .eraseAll [0x0CEA0000]) = some (.eraseAll, [0x0CEA0000]) ∧
        Instr.wf p l a (.cycle .eraseAll [0x0CEA0000]) = true) := by decide

theorem witness_WireCommandsComplete :
    let s := ready bank4 ((answered sentinel).list ++ [bad])
    s.engaged = false ∧ s.stg.wf = true ∧ s.pstate = .idle ∧ (answered sentinel).accepts s.cfg ∧
      s.replies = (answered sentinel).list ++ [bad] := by
  refine ⟨rfl, rfl, rfl, ⟨rfl, rfl, rfl, rfl⟩, rfl⟩

theorem witness_WireCommandsReportFailure :
    let s := ready bank4 ((answered 0x0ACD0001).list ++ [])
    s.engaged = false ∧ s.stg.wf = true ∧ s.pstate = .idle ∧ (answered 0x0ACD0001).response.word ≠ s.cfg.rspDone ∧
      s.replies = (answered 0x0ACD0001).list ++ [] := by decide

theorem witness_WireCommandsCutShort :
    (ready bank4 [bad]).replies = bad :: [] ∧ (ready bank4 [good 0, bad]).replies = good 0 :: bad :: [] ∧
      (ready bank4 [good 0, good 0, bad]).replies = good 0 :: good 0 :: bad :: [] ∧
      (ready bank4 []).engaged = false ∧ (ready bank4 []).stg.wf = true ∧ (ready bank4 []).pstate = .idle ∧
      (good 0).good = true ∧ bad.good = false := by decide

/-- A cycle from another state, a cycle of no command, and flash-blocks just outside each bound; two of them are run. -/
theorem witness_CycleOutsideIdle :
    let s : State := { ready bank4 [] with pstate := .failed }
    (s.engaged = false ∧ s.pstate ≠ .idle ∧ faultOf (exec (.cycle .eraseAll [0x0CEA0000]) s) = some .noTransition) ∧
      ((ready bank4 []).engaged = false ∧ (ready bank4 []).pstate = .idle ∧
        isPacketOf Params.default bank4.bufLen bank4.bufAlign .eraseAll [0x0CEA0001] = false ∧
        refusalOf (exec (.cycle .eraseAll [0x0CEA0001]) (ready bank4 [])) = some .illFormed) ∧
      ((0 : BitVec 16) = 0 ∧ State.reset.bank.bufAlign = 0 ∧
        bank4.bufLen.toNat < (3 : Word).toNat % bank4.bufAlign.toNat + (6 : BitVec 16).toNat ∧
        [(0xA0FFFFFF : Word)].length ≠ ((3 : Word).toNat % bank4.bufAlign.toNat % 4 + (5 : BitVec 16).toNat + 3) / 4 ∧
        bank4.bufLen.toNat / 4 < [(0 : Word), 0, 0].length ∧
        (0 : Word) ≠ checksumOf Params.default.chksInit [7] ∧
        laneOf 0xA0FFFF00 0 ≠ 0xFF ∧ 4 * 0 + 0 < (3 : Word).toNat % bank4.bufAlign.toNat % 4 ∧
        refusalOf (exec (.wireFlashBlock 4 4 [7] 0) (ready bank4 [])) = some .illFormed ∧
        refusalOf (exec (.wireFlashBlock 5 3 [0xA0FFFF00, 0xA4A3A2A1] 0xC55C90AD) (ready bank4 [])) = some .illFormed) := by
  decide

theorem witness_NothingIsAcceptedWhileEngaged :
    erasing.engaged = true ∧ probing.engaged = true ∧ { State.reset with phase := .drainPoll }.engaged = true := by
  decide

/-- A chunk answered, with bytes remaining: the one tick from `DONE`. -/
def writing : State :=
  { ready bank4 [] with
    op := .write, whole := true, pstate := .done, phase := .chunk, xfer := ⟨8, 4, 5, 5⟩
    args := ⟨0, 0, 3, [0xA0, 0xA1, 0xA2, 0xA3, 0xA4, 0xA5, 0xA6, 0xA7, 0xA8]⟩ }

theorem progress_writing : Progress writing.args writing.xfer := by constructor <;> decide

theorem witness_TickFollowsTransitionTable :
    PhaseOk writing ∧ writing.pstate = .done ∧ ∃ t, tick writing = some t ∧ t.pstate = .idle :=
  ⟨⟨rfl, rfl, by decide, progress_writing, .inr rfl⟩, rfl, _, rfl, rfl⟩

/-- A step that resumes a PROBE about to send, and leaves the command outstanding. -/
theorem witness_OneOutstandingCommand :
    let s : State := { State.reset with
      op := .probe, whole := true, phase := .send 1, stg := [(0, 0x0CBE0000)], replies := [good 0] }
    s.resetLine = false ∧ Inv s ∧ ∃ t, step s = .next t ∧ t.port = .outstanding ∧ t.trace = [.send [0x0CBE0000] none] :=
  ⟨rfl, ⟨by decide, rfl, rfl, fun n h => by cases h; decide, .inl rfl, ⟨.inr (.inl ⟨rfl, rfl, rfl⟩), rfl⟩, fun _ => rfl⟩,
    _, nextOf_some (by rfl), by decide⟩

/-- A bare cycle at its response read. -/
def bareCycle : State := { ready bank16 [] with pstate := .awaitingAck, phase := .respRead, tag := .eraseAll }

theorem witness_ResponseEndsABareCycle :
    bareCycle.phase = .respRead ∧ bareCycle.whole = false ∧ bareCycle.op = .none ∧
      sentinel = bareCycle.cfg.rspDone ∧ sentinel + 1 ≠ bareCycle.cfg.rspDone := by decide

theorem witness_ResponseEndsAnErase :
    erasing.phase = .respRead ∧ erasing.whole = true ∧ erasing.op = .erase ∧ sentinel = erasing.cfg.rspDone ∧
      sentinel - 1 ≠ erasing.cfg.rspDone := by decide

theorem witness_ResponseInsideAProbe :
    let s : State := { probing with pstate := .awaitingAck, phase := .respRead, tag := .probe }
    s.phase = .respRead ∧ s.whole = true ∧ s.op = .probe ∧ sentinel = s.cfg.rspDone ∧ s.replies = [] ∧
      (0 : Word) ≠ s.cfg.rspDone := by decide

theorem witness_ResponseInsideAWrite :
    let s : State := { writing with pstate := .awaitingAck, phase := .respRead, tag := .flashBlock }
    let last : State := { s with xfer := ⟨8, 4, 4, 5⟩ }
    s.phase = .respRead ∧ s.whole = true ∧ s.op = .write ∧ s.xfer.remaining ≠ s.xfer.runLen ∧ s.replies = [] ∧
      last.xfer.remaining = last.xfer.runLen ∧ sentinel = s.cfg.rspDone ∧ sentinel + 1 ≠ s.cfg.rspDone := by decide

theorem witness_UnreadResponseIsNotSeen :
    writing.phase.receiving = false ∧ writing.phase ≠ .geomWait ∧
      { probing with phase := .drainTake }.phase = .drainTake ∧ probing.replies = [] ∧
      { probing with phase := .geomRead, gidx := 2 }.phase = .geomRead ∧
      { probing with phase := .geomRead, gidx := 2 }.gidx ≠ 3 ∧ erasing.phase = .respRead ∧
      { probing with phase := .geomRead, gidx := 3 }.gidx = 3 := by decide

/-- The first word awaited, and the last: then one word is taken and three are left. -/
theorem witness_GeometryWordsEndTheRead :
    let g : Geom := ⟨0, 0x10000, 0x10, 0x00000400⟩
    let last : State := { probing with gidx := 3, geom := ⟨0, 0x10000, 0x10, 0⟩ }
    (probing.phase = .geomWait ∧ probing.gidx.toNat < 4 ∧ probing.whole = true ∧ probing.op = .probe ∧
      g.list = probing.geom.list.take 0 ++ g.list.take 4 ∧ g.decode.valid probing.cfg = true) ∧
    (last.gidx.toNat < 4 ∧ g.list = last.geom.list.take 3 ++ (⟨0x400, 1, 2, 3⟩ : Geom).list.take 1) ∧
    ({ last with phase := .geomRead }.phase = .geomRead ∧ last.gidx = 3 ∧
      (wordEvents last.cfg ((⟨0x400, 1, 2, 3⟩ : Geom).list.take 1)).drop 1 = [.recv (.word 0x400)] ∧
      (nextOf (exec (.respDone 0x400) { last with phase := .geomRead })).map (fun t => t.bank) = some g.decode) ∧
    (Geom.decode ⟨0, 0x10000, 0x10, 0x00041002⟩).valid probing.cfg = false ∧
    { ready bank16 [] with phase := .geomWait }.whole = false := by decide

theorem witness_ResponseIsDecodedAgainstTheSentinel :
    let s : State := { writing with pstate := .responseReceived, phase := .respCheck, resp := sentinel }
    s.phase = .respCheck ∧ s.resp = s.cfg.rspDone ∧ { s with resp := sentinel + 1 }.resp ≠ s.cfg.rspDone := by decide

/-- A PROBE that waits and is resumed, a PROBE that a step starts, and steps that are neither. -/
theorem witness_OnlyProbeWritesTheBank :
    let waits : State := { probing with replies := geometry 0 0x10000 0x10 0x00000400 }
    let starts : State := { ready bank16 [bad, bad] with calls := [.host .probe] }
    (PhaseOk waits ∧ waits.resetLine = false ∧ waits.op = .probe ∧ ∃ t, step waits = .next t ∧ t.results = [.ok]) ∧
    (PhaseOk starts ∧ (∃ u, fetch starts = .run .hostProbe u) ∧ ∃ t, step starts = .next t ∧ t.bank = Bank.unprobed) ∧
    (PhaseOk submitted ∧ submitted.op ≠ .probe ∧ (∀ u, fetch submitted ≠ .run .hostProbe u) ∧
      ∃ t, step submitted = .next t ∧ t.results = [.ok]) :=
  ⟨⟨⟨.inl ⟨rfl, rfl⟩, by decide, fun _ => rfl⟩, rfl, rfl, _, nextOf_some (by rfl), by decide⟩,
    ⟨⟨rfl, rfl⟩, ⟨_, rfl⟩, _, nextOf_some (by rfl), by decide⟩,
    ⟨rfl, rfl⟩, by decide, (fun _ h => nomatch h), _, nextOf_some (by rfl), by decide⟩

/-- P1s: one stale word, then V1's geometry. -/
theorem witness_ProbeCompletes :
    let s : State := { State.reset with
      replies := pollReplies [(good 0, good 0x0ACD0000)] ++ bad :: ((answered sentinel).list ++
        [good 0, good 0x00100000, good 0, good 0x00010000, good 0, good 0x10, good 0, good 0x10001000] ++ []) }
    s.engaged = false ∧ s.stg.wf = true ∧ pollsGood [(good 0, good 0x0ACD0000)] ∧ drainFits s.cfg 1 ∧
      bad.good = false ∧ (answered sentinel).accepts s.cfg ∧
      Bank.valid s.cfg (Geom.decode ⟨0x00100000, 0x00010000, 0x10, 0x10001000⟩) = true := by
  refine ⟨rfl, rfl, by simp [pollsGood, good], by simp [drainFits, State.reset, Block.State.initial, Params.default], rfl,
    ⟨rfl, rfl, rfl, rfl⟩, by decide⟩

/-- The receive of a stale word fails: its own error ends the PROBE. -/
theorem witness_ProbeIsAllOrNothing :
    let s := ready bank16 [good 0, ⟨false, 0, ⟨7⟩⟩]
    s.engaged = false ∧ s.stg.wf = true ∧
      ∃ t, exec .hostProbe s = .next t ∧ t.results = s.results ++ [.err (.transportError ⟨7⟩) none] :=
  ⟨rfl, rfl, _, nextOf_some (by rfl), by decide⟩

theorem witness_ProbeFrame :
    (ready bank16 [bad]).stg.wf = true ∧ ∃ t, exec .hostProbe (ready bank16 [bad]) = .next t ∧ t.phase = .send 1 :=
  ⟨rfl, _, nextOf_some (by rfl), by decide⟩

theorem witness_DrainCompletes :
    let s := ready bank16 (pollReplies [(good 0, good 5)] ++ bad :: [good 9])
    s.engaged = false ∧ pollsGood [(good 0, good 5)] ∧ drainFits s.cfg 1 ∧ bad.good = false := by
  refine ⟨rfl, by simp [pollsGood, good], by simp [drainFits, ready, State.reset, Block.State.initial, Params.default], rfl⟩

/-- The limits 0 and 1, at the limit. -/
theorem witness_DrainLimitIsATransportError :
    let p0 : Params := { Params.default with drainLimit := some 0 }
    let p1 : Params := { Params.default with drainLimit := some 1 }
    let s0 : State := { ready bank16 (pollReplies [] ++ good 0 :: []) with cfg := p0 }
    let s1 : State := { ready bank16 (pollReplies [(good 0, good 5)] ++ good 0 :: []) with cfg := p1 }
    s0.engaged = false ∧ s0.cfg.drainLimit = some 0 ∧ s1.engaged = false ∧ s1.cfg.drainLimit = some 1 ∧
      pollsGood [(good 0, good 5)] ∧ (good 0).good = true := by
  refine ⟨rfl, rfl, rfl, rfl, by simp [pollsGood, good], rfl⟩

theorem witness_GeomReadCompletes :
    let s := ready bank16 (geometry 1 2 3 4)
    s.engaged = false ∧ (∀ r ∈ geometry 1 2 3 4, r.good = true) ∧ s.replies = geometry 1 2 3 4 ++ [] := by decide

/-- The timeout of 0, and the smallest that is not. -/
theorem witness_GeometryHandshakeWaitsOrTimesOut :
    let s := ready bank16 [bad, bad]
    let s1 : State := { s with cfg := { Params.default with geomTimeoutMs := 1 } }
    s.engaged = false ∧ (∀ r ∈ s.replies, r.good = false) ∧ s.cfg.geomTimeoutMs = 0 ∧ s1.cfg.geomTimeoutMs ≠ 0 ∧
      s1.replies = bad :: [bad] ∧ { probing with phase := .geomWait, replies := [bad, bad] }.phase = .geomWait ∧
      probing.cfg.geomTimeoutMs = 0 ∧ probing.resetLine = false := by decide

/-- The second geometry word's receive fails: its own error, after the events up to it. -/
theorem witness_DrainAndGeomReadFrame :
    let s := ready bank16 [good 0, good 5, good 0, ⟨false, 0, ⟨7⟩⟩]
    s.engaged = false ∧ ∃ t, exec .geomRead s = .next t ∧ t.err.transport = ⟨7⟩ ∧
      t.trace = s.trace ++ [.hs 0 true, .recv (.word 5), .hs 0 true, .recv (.err ⟨7⟩)] :=
  ⟨rfl, _, nextOf_some (by rfl), by decide⟩

theorem witness_EraseCompletes :
    let s := ready bank16 (good 0 :: ((answered sentinel).list ++ []))
    s.engaged = false ∧ s.stg.wf = true ∧ s.probed = true ∧ (good 0).good = true ∧
      (answered sentinel).accepts s.cfg := by
  refine ⟨rfl, rfl, by decide, rfl, ⟨rfl, rfl, rfl, rfl⟩⟩

/-- A handshake that times out: the events of its own failing cycle. -/
theorem witness_EraseOutcomesAndFrame :
    let s := ready bank16 [good 0, good 0, bad]
    s.engaged = false ∧ s.stg.wf = true ∧ ∃ t, exec (.hostErase 2 3) s = .next t ∧
      t.results = s.results ++ [.err .transportTimeout none] ∧
      t.trace = s.trace ++ [.run true, .send [s.cfg.opcEraseBlock, 2, 3] none, .hs 1000 false] :=
  ⟨rfl, rfl, _, nextOf_some (by rfl), by decide⟩

theorem witness_EraseAndWriteGates :
    State.reset.engaged = false ∧ State.reset.probed = false ∧ (ready bank16 [bad]).probed = true ∧
      (ready bank16 [bad]).replies = bad :: [] ∧ bad.good = false ∧
      payloadTooLong State.reset.cfg [0] = false ∧ HostOp.write 0 [0] ≠ .probe ∧ HostOp.erase 0 0 ≠ .probe := by decide

theorem witness_EmptyWriteSendsNothing :
    (ready bank16 [good 0]).engaged = false ∧ (ready bank16 [good 0]).probed = true ∧
      (ready bank16 [good 0]).replies = good 0 :: [] := by decide

/-- P5's bank and payload: two chunks. -/
theorem witness_WriteCompletes :
    let payload : List Byte := [0xA0, 0xA1, 0xA2, 0xA3, 0xA4, 0xA5, 0xA6, 0xA7, 0xA8]
    let cycles := [answered sentinel, answered sentinel]
    let s := ready bank4 (good 0 :: (cycles.flatMap CycleReplies.list ++ []))
    s.engaged = false ∧ s.stg.wf = true ∧ BankSound s.bank ∧ payload ≠ [] ∧ payloadTooLong s.cfg payload = false ∧
      cycles.length = (chunksOf s.bank payload 3).length ∧ (∀ c ∈ cycles, c.accepts s.cfg) := by
  refine ⟨rfl, rfl, sound_bank4, by decide, by decide, by decide, ?_⟩
  intro c hc
  simp only [List.mem_cons, List.not_mem_nil, or_false, or_self] at hc
  subst hc
  exact ⟨rfl, rfl, rfl, rfl⟩

/-- Two chunks in the middle, and a payload that ends at the last offset. -/
theorem witness_ChunkSequenceCoversThePayload :
    BankSound bank4 ∧ (chunksOf bank4 [1, 2, 3, 4, 5, 6, 7, 8, 9] 3)[0]? = some (3, [1, 2, 3, 4, 5, 6, 7, 8, 9]) ∧
      (chunksOf bank4 [1, 2, 3, 4, 5, 6, 7, 8, 9] 3)[0 + 1]? = some (8, [6, 7, 8, 9]) ∧
      (0xFFFFFFF3 : Word).toNat + (List.replicate 13 (1 : Byte)).length = 2 ^ 32 ∧
      (chunksOf bank4 (List.replicate 13 1) 0xFFFFFFF3)[0 + 1]? = some (0xFFFFFFF8, List.replicate 8 1) :=
  ⟨sound_bank4, by decide, by decide, by simp, by decide⟩

theorem witness_ChunkPacketIsOneLegalFlashBlock :
    writing.cfg.wf ∧ writing.stg.wf = true ∧ BankSound writing.bank ∧ Progress writing.args writing.xfer ∧
      writing.phase = .chunk ∧ writing.xfer.remaining ≠ 0 :=
  ⟨by decide, rfl, sound_bank4, progress_writing, rfl, by decide⟩

/-- P5: the second chunk's response is not the sentinel. -/
theorem witness_WriteFailureReportsItsOffset :
    let s := ready bank4 (good 0 :: ((answered sentinel).list ++ (answered 0x0ACF0000).list))
    let payload : List Byte := [0xA0, 0xA1, 0xA2, 0xA3, 0xA4, 0xA5, 0xA6, 0xA7, 0xA8]
    s.engaged = false ∧ s.stg.wf = true ∧ BankSound s.bank ∧ payloadTooLong s.cfg payload = false ∧
      (.protocolFailure .flashBlock 0x0ACF0000 : ErrInfo) ≠ .targetNotRunning ∧
      ∃ t, exec (.hostWrite 3 payload) s = .next t ∧
        t.results = s.results ++ [.err (.protocolFailure .flashBlock 0x0ACF0000) (some 8)] :=
  ⟨rfl, rfl, sound_bank4, by decide, by decide, _, nextOf_some (by rfl), by decide⟩

theorem witness_WriteOutcomesAndFrame :
    (ready bank4 [good 0]).engaged = false ∧ (ready bank4 [good 0]).stg.wf = true ∧
      payloadTooLong (ready bank4 [good 0]).cfg [1] = false ∧ BankSound (ready bank4 [good 0]).bank ∧
      BeyondPackets (ready bank4 [good 0]).cfg bank4 (chunksOf bank4 [1] 0) 4 :=
  ⟨by decide, by decide, by decide, sound_bank4, by simp only [BeyondPackets]; decide⟩

/-- One state of each kind in flight: a PROBE, an ERASE, a WRITE and a part running alone. -/
theorem witness_ResumedOperationsEndOrWait :
    (PhaseOk probing ∧ probing.op = .probe ∧ probing.stg.wf = true ∧ probing.resetLine = false ∧ probing.phase ≠ .idle) ∧
    (PhaseOk { erasing with replies := [good 0] } ∧ erasing.op = .erase ∧
      ∃ t, step { erasing with replies := [good 0] } = .next t ∧
        t.results = [.err (.protocolFailure .eraseBlock 0) none]) ∧
    (PhaseOk writing ∧ writing.op = .write ∧ (∃ t, step writing = .next t ∧ t.phase = .send 4) ∧
      BankSound writing.bank ∧ BeyondPackets writing.cfg writing.bank writing.chunksToBuild 4) ∧
    (PhaseOk { bareCycle with replies := [bad] } ∧ bareCycle.op = .none ∧
      ∃ t, step { bareCycle with replies := [bad] } = .next t ∧ t.err.kind = .transportError) :=
  ⟨⟨⟨.inl ⟨rfl, rfl⟩, by decide, fun _ => rfl⟩, by decide⟩,
    ⟨⟨.inr (.inr (.inl ⟨rfl, rfl, by decide, .inr rfl⟩)), rfl⟩, rfl, _, nextOf_some (by rfl), by decide⟩,
    ⟨⟨rfl, rfl, by decide, progress_writing, .inr rfl⟩, rfl, ⟨_, nextOf_some (by rfl), by decide⟩, sound_bank4,
      by simp only [BeyondPackets]; decide⟩,
    ⟨.inl ⟨rfl, rfl⟩, rfl⟩, rfl, _, nextOf_some (by rfl), by decide⟩

/-- A map to another type: nothing is left to tell the errors apart by. -/
theorem witness_TransportErrorsAreOnlyCopied_types :
    ∃ f : TransportErr TransportValue → TransportErr Unit, ∀ n, f (Config.drainLimitError n) = Config.drainLimitError n :=
  ⟨fun _ => ⟨()⟩, fun _ => rfl⟩

open Classical in
/-- Every error of the environment under one name, and the name of the exceeded `DRAIN_LIMIT` kept. -/
theorem witness_TransportErrorsAreOnlyCopied_step :
    ∃ f : TransportErr TransportValue → TransportErr TransportValue,
      (∀ n, f (Config.drainLimitError n) = Config.drainLimitError n) ∧
      f State.reset.err.transport = State.reset.err.transport ∧
      ∀ e, (∀ n, e ≠ Config.drainLimitError n) → f e = ⟨0⟩ :=
  ⟨fun e => if ∃ n, e = Config.drainLimitError n then e else ⟨0⟩, fun n => if_pos ⟨n, rfl⟩,
    by dsimp only; split <;> rfl, fun _ h => if_neg fun ⟨n, hn⟩ => h n hn⟩

theorem witness_ErrorEntry : probing.op = .probe ∧ writing.op = .write ∧ erasing.op ≠ .none := by decide

/-- What P4's failed WRITE leaves, before an ERASE that goes through and a WRITE that no request can hold. -/
theorem witness_ErrorsDoNotOutlastTheNextAcceptance :
    let s := ready bank16 (good 0 :: (answered sentinel).list)
    let e : ErrRegs := ⟨.transportTimeout, .flashBlock, 9, ⟨7⟩, 0x1000, true⟩
    let p : Params := { Params.default with maxPayload := some 0 }
    s.engaged = false ∧
      (nextOf (exec (HostOp.erase 0 15).instr { s with err := e, pstate := .failed })).map
        (fun t => (t.results, t.err.kind, t.err.failOffset)) = some ([.ok], .none, 0x1000) ∧
      refusalOf (exec (HostOp.write 0 [0]).instr { s with cfg := p }) = some .payloadTooLong := by decide

theorem witness_SectorsPartitionTheBank : BankSound bank16 ∧ 15 < bank16.sectCount.toNat ∧
    bank16.sectCount.toNat ≤ 16 ∧ bank16.sect 15 = some ⟨0xF000, 0x1000, .unknown, .unknown⟩ :=
  ⟨sound_bank16, by decide, by decide, by decide⟩

theorem witness_ProbedTestsAgree : BankOk Bank.unprobed ∧ BankOk bank16 := ⟨.inl rfl, .inr sound_bank16⟩

theorem witness_AccessorsReadTheRegisters :
    let s : State := { ready bank16 [] with err := ⟨.protocolFailure, .eraseAll, 3, ⟨0⟩, 8, true⟩ }
    let t : State := { ready bank16 [] with err := ⟨.transportError, .probe, 0, ⟨7⟩, 0, false⟩ }
    s.busy = false ∧ s.err.kind = .protocolFailure ∧ s.err.failValid = true ∧ s.err.kind ≠ .none ∧
      s.op ≠ .write ∧ t.busy = false ∧ t.err.kind = .transportError ∧
      erasing.op ≠ .probe ∧ erasing.busy = true ∧ writing.op ≠ .probe ∧ writing.busy = true ∧
      access 0 .bufLen erasing = .word 0x1000 := by decide

/-- Just above a `MAX_PAYLOAD` of 2, and at the limit of a u32. -/
theorem witness_OverlongPayloadIsRefused :
    let s : State := { State.reset with cfg := { Params.default with maxPayload := some 2 } }
    s.engaged = false ∧ s.cfg.maxPayload = some 2 ∧ 2 < [(0 : Byte), 0, 0].length ∧
      2 ^ 32 ≤ (List.replicate (2 ^ 32) (0 : Byte)).length := by
  refine ⟨rfl, rfl, by decide, ?_⟩
  simp only [List.length_replicate, le_refl]

end Sys2Proof.Tests
end

section
/-! The closed form of the Block Packer, lane by lane: which words PACK returns, what each of their lanes holds, and the packing
round trip (40_block_packer.md R131, R135, R136, R139). -/

namespace Sys2Proof

/-- A lane of a packed word is the closed form's lane (40_block_packer.md R131). -/
theorem laneOf_packWord (payload : List Byte) (start k : Nat) {j : Nat} (hj : j < 4) :
    laneOf (packWord payload start k) j = packLane payload start k j := by
  obtain ⟨h0, h1, h2, h3⟩ := laneOf_wordOfLanes (packLane payload start k 0) (packLane payload start k 1)
    (packLane payload start k 2) (packLane payload start k 3)
  match j with
  | 0 => exact h0
  | 1 => exact h1
  | 2 => exact h2
  | 3 => exact h3

theorem getElem?_packWords_of_lt {payload : List Byte} {o : Word} {k : Nat}
    (hk : k < packCount (o.toNat % 4) payload.length) :
    (packWords payload o)[k]? = some (packWord payload (o.toNat % 4) k) := by
  simp [packWords, hk]

theorem getElem?_packWords_eq_some {payload : List Byte} {o : Word} {k : Nat} {w : Word}
    (hw : (packWords payload o)[k]? = some w) : w = packWord payload (o.toNat % 4) k := by
  have hk : k < packCount (o.toNat % 4) payload.length := by
    simpa using (List.getElem?_eq_some_iff.mp hw).1
  rw [getElem?_packWords_of_lt hk] at hw
  exact (Option.some.inj hw).symm

/-- A lane outside the payload is filler (40_block_packer.md R135, R136). -/
theorem packLane_filler {payload : List Byte} {start k j : Nat}
    (h : 4 * k + j < start ∨ start + payload.length ≤ 4 * k + j) : packLane payload start k j = 0xFF := by
  unfold packLane
  obtain hbefore | hafter := h
  · rw [if_neg (by omega)]
  · rw [if_pos (by omega), List.getElem?_eq_none (by omega), Option.getD_none]

/-- The lane of the payload's byte `i` holds that byte (40_block_packer.md R131). -/
theorem packLane_payload {payload : List Byte} {start i : Nat} (hi : i < payload.length) :
    packLane payload start ((start + i) / 4) ((start + i) % 4) = payload[i] := by
  rw [packLane, Nat.div_add_mod, if_pos (Nat.le_add_right ..), Nat.add_sub_cancel_left, List.getElem?_eq_getElem hi,
    Option.getD_some]

/-- The word of the payload's byte `i` is one of those packed. -/
theorem payload_word_lt_packCount {start i n : Nat} (hi : i < n) : (start + i) / 4 < packCount start n := by
  rw [packCount_of_ne (by omega), dataWords]
  omega

theorem unpack_packWords (payload : List Byte) (o : Word) :
    unpack (packWords payload o) (o.toNat % 4) payload.length = payload := by
  refine List.ext_getElem (length_unpack ..) fun i _ hi => ?_
  have hword := getElem?_packWords_of_lt (o := o) (payload_word_lt_packCount hi)
  calc (unpack (packWords payload o) (o.toNat % 4) payload.length)[i]
      = laneOf (((packWords payload o)[(o.toNat % 4 + i) / 4]?).getD 0) ((o.toNat % 4 + i) % 4) := by simp [unpack]
    _ = packLane payload (o.toNat % 4) ((o.toNat % 4 + i) / 4) ((o.toNat % 4 + i) % 4) := by
        rw [hword, Option.getD_some, laneOf_packWord _ _ _ (Nat.mod_lt _ (by decide))]
    _ = payload[i] := packLane_payload hi

/-- Settles O14: each payload byte is read back from the lane it was packed into, and a lane outside the payload is filler. -/
theorem packRoundTripAndFiller : Obligations.PackRoundTripAndFiller := by
  intro payload o
  refine ⟨unpack_packWords payload o, fun k j w hw hj hfill => ?_⟩
  rw [getElem?_packWords_eq_some hw, laneOf_packWord _ _ _ hj]
  exact packLane_filler hfill

end Sys2Proof
end

section
/-! DECODE, the last computation of a command cycle (41_protocol_cycle.md R156): the tick that compares the response word with
the sentinel, its two outcomes, and what they leave in `PSTATE` and in the error registers. -/

namespace Sys2Proof.Machine

variable {τ : Type}

/-- What follows a cycle in its operation writes no `PSTATE` (41_protocol_cycle.md R157). -/
@[simp] theorem afterCycle_pstate (s : Block.State τ) : (afterCycle s).pstate = s.pstate := by
  unfold afterCycle
  split
  · cases s.op
    case none => rfl
    case probe => exact startGeomRead_pstate s
    case erase => exact finishOk_pstate s
    case write => exact advance_pstate s
  · rfl

theorem checkResponse_of_eq {s : Block.State τ} (h : s.resp = s.cfg.rspDone) :
    checkResponse s = afterCycle { s with pstate := .done } := if_pos h

theorem checkResponse_of_ne {s : Block.State τ} (h : s.resp ≠ s.cfg.rspDone) :
    checkResponse s = raiseError true (.protocolFailure s.tag s.resp) s := if_neg h

theorem compute_respCheck {s : Block.State τ} (h : s.phase = .respCheck) : compute s = checkResponse s := by
  simp only [compute, h]

theorem tick_respCheck [Inhabited τ] {s : Block.State τ} (h : s.phase = .respCheck) : tick s = some (checkResponse s) := by
  rw [tick_internal (by rw [h]; rfl), compute_respCheck h]

/-- Settles O26: the tick is `checkResponse`, which ends the cycle in `DONE` on equality and raises `ProtocolFailure` otherwise. -/
theorem responseIsDecodedAgainstTheSentinel : Obligations.ResponseIsDecodedAgainstTheSentinel := by
  intro s hphase
  refine ⟨checkResponse s, tick_respCheck hphase, fun hdone => ?_, fun hother => ?_⟩
  · rw [checkResponse_of_eq hdone, afterCycle_pstate]
  · rw [checkResponse_of_ne hother, raiseError_err]
    exact ⟨raiseError_pstate .., record_kind .., record_tag_protocolFailure .., record_raw_protocolFailure ..⟩

end Sys2Proof.Machine
end

section
/-! The halves of a word by value (30_encoding.md R98, R104), and the fields the four geometry words decode to (42_probe.md R176,
R177). -/

namespace Sys2Proof

@[simp] theorem toNat_lo16 (w : Word) : (lo16 w).toNat = w.toNat % 2 ^ 16 := by
  rw [lo16, BitVec.extractLsb'_toNat, Nat.shiftRight_zero]

@[simp] theorem toNat_hi16 (w : Word) : (hi16 w).toNat = w.toNat / 2 ^ 16 := by
  rw [hi16, BitVec.extractLsb'_toNat, Nat.shiftRight_eq_div_pow]
  exact Nat.mod_eq_of_lt (Nat.div_lt_of_lt_mul w.isLt)

@[simp] theorem toNat_zext32 (h : BitVec 16) : (zext32 h).toNat = h.toNat :=
  BitVec.toNat_setWidth_of_le (by decide)

theorem hi16_eq_zero_iff (w : Word) : hi16 w = 0 ↔ w.toNat / 2 ^ 16 = 0 := by
  rw [← BitVec.toNat_inj, toNat_hi16]
  exact Iff.rfl

namespace Machine

theorem toNat_decode_bufLen (g : Geom) : g.decode.bufLen.toNat = g.g3.toNat % 2 ^ 16 := by
  rw [Geom.decode, toNat_zext32, toNat_lo16]

/-- An alignment reported as 0 is read as 1 (42_probe.md R177). -/
theorem toNat_decode_bufAlign (g : Geom) :
    g.decode.bufAlign.toNat = if g.g3.toNat / 2 ^ 16 = 0 then 1 else g.g3.toNat / 2 ^ 16 := by
  simp only [Geom.decode, hi16_eq_zero_iff]
  split
  case isTrue => rfl
  case isFalse => rw [toNat_zext32, toNat_hi16]

/-- Settles O34: `G0` to `G2` are the fields themselves, and `G3` is read by its two halves' values, with no byte swapped. -/
theorem geometryWordsDecode : Obligations.GeometryWordsDecode :=
  fun g => ⟨rfl, rfl, rfl, toNat_decode_bufLen g, toNat_decode_bufAlign g⟩

end Machine
end Sys2Proof
end

section
/-! The wire formats, decoded and encoded (30_encoding.md R95 to R105): what the decoder makes of each format's words, and that
it accepts no others. -/

namespace Sys2Proof

/-! ### Word 0 of a flash-block -/

theorem word_eq_of_halves {a b : Word} (hhi : hi16 a = hi16 b) (hlo : lo16 a = lo16 b) : a = b := by
  rw [← BitVec.toNat_inj] at hhi hlo ⊢
  rw [toNat_hi16, toNat_hi16] at hhi
  rw [toNat_lo16, toNat_lo16] at hlo
  omega

@[simp] theorem hi16_or (a b : Word) : hi16 (a ||| b) = hi16 a ||| hi16 b := BitVec.extractLsb'_or ..

@[simp] theorem lo16_or (a b : Word) : lo16 (a ||| b) = lo16 a ||| lo16 b := BitVec.extractLsb'_or ..

@[simp] theorem hi16_zext32 (h : BitVec 16) : hi16 (zext32 h) = 0 := by
  rw [← BitVec.toNat_inj, toNat_hi16, toNat_zext32]
  exact Nat.div_eq_of_lt h.isLt

@[simp] theorem lo16_zext32 (h : BitVec 16) : lo16 (zext32 h) = h := by
  rw [← BitVec.toNat_inj, toNat_lo16, toNat_zext32]
  exact Nat.mod_eq_of_lt h.isLt

theorem hi16_flashWord0 (p : Params) (runlen : BitVec 16) : hi16 (flashWord0 p (zext32 runlen)) = hi16 p.opcFlashBlock := by
  simp [flashWord0]

theorem lo16_flashWord0 {p : Params} (hp : p.wf) (runlen : BitVec 16) : lo16 (flashWord0 p (zext32 runlen)) = runlen := by
  obtain ⟨-, -, -, hflash, -⟩ := hp
  rw [flashWord0, lo16_or, lo16_zext32, show lo16 p.opcFlashBlock = 0#16 from hflash, BitVec.zero_or]

/-- A word under the flash-block opcode is that opcode with the run length in its low half (30_encoding.md R99). -/
theorem flashWord0_lo16 {p : Params} (hp : p.wf) {w : Word} (hw : hi16 w = hi16 p.opcFlashBlock) :
    flashWord0 p (zext32 (lo16 w)) = w :=
  word_eq_of_halves (by rw [hi16_flashWord0, hw]) (lo16_flashWord0 hp _)

/-! ### The decoder on each format -/

variable {p : Params} {align : Word}

theorem decodeCommand_probe (ws : List Word) : decodeCommand p align (p.opcProbe :: ws) = .ok (.wireProbe, ws) := by
  simp [decodeCommand]

theorem decodeCommand_eraseAll (hp : p.wf) (ws : List Word) :
    decodeCommand p align (p.opcEraseAll :: ws) = .ok (.wireEraseAll, ws) := by
  obtain ⟨-, -, -, -, hne, -⟩ := hp
  unfold decodeCommand
  dsimp only
  rw [if_neg (fun h => hne (by rw [h])), if_pos rfl]

theorem decodeCommand_eraseBlock (hp : p.wf) (first last : Word) (ws : List Word) :
    decodeCommand p align (p.opcEraseBlock :: first :: last :: ws) = .ok (.wireEraseBlock first last, ws) := by
  obtain ⟨-, -, -, -, -, hprobe, -, hall, -⟩ := hp
  unfold decodeCommand
  dsimp only
  rw [if_neg (fun h => hprobe (by rw [h])), if_neg (fun h => hall (by rw [h])), if_pos rfl]

/-- A flash-block is taken apart by the length that its start lane and run length give (30_encoding.md R102). -/
theorem decodeCommand_flashBlock (hp : p.wf) {w offset checksum : Word} {data : List Word} (ws : List Word)
    (hw : hi16 w = hi16 p.opcFlashBlock) (halign : align ≠ 0)
    (hlen : data.length = dataWords (startLane align offset) (lo16 w).toNat) :
    decodeCommand p align (w :: offset :: (data ++ checksum :: ws)) =
      .ok (.wireFlashBlock (lo16 w) offset data checksum, ws) := by
  obtain ⟨-, -, -, -, -, -, hprobe, -, hall, hblock⟩ := hp
  have hne : ∀ {o : Word}, o.extractLsb' 16 16 ≠ p.opcFlashBlock.extractLsb' 16 16 → w ≠ o := fun h e => h (by rw [← e]; exact hw)
  unfold decodeCommand
  dsimp only
  rw [if_neg (hne hprobe), if_neg (hne hall), if_neg (hne hblock), if_pos hw, if_neg halign, ← hlen, List.drop_left,
    List.take_left]

/-- All that the command decoder accepts: the words of one of the four formats, and whatever follows them. -/
theorem decodeCommand_ok {i : Instr} {ws rest : List Word} (h : decodeCommand p align ws = .ok (i, rest)) :
    (i = .wireProbe ∧ ws = p.opcProbe :: rest) ∨
    (i = .wireEraseAll ∧ ws = p.opcEraseAll :: rest) ∨
    (∃ first last, i = .wireEraseBlock first last ∧ ws = p.opcEraseBlock :: first :: last :: rest) ∨
    (∃ w offset data checksum, hi16 w = hi16 p.opcFlashBlock ∧ align ≠ 0 ∧
      data.length = dataWords (startLane align offset) (lo16 w).toNat ∧
      i = .wireFlashBlock (lo16 w) offset data checksum ∧ ws = w :: offset :: (data ++ checksum :: rest)) := by
  cases ws with
  | nil => cases h
  | cons w ws =>
    unfold decodeCommand at h
    dsimp only at h
    split_ifs at h with hprobe hall hblock hflash halign
    · cases h
      exact .inl ⟨rfl, by rw [hprobe]⟩
    · cases h
      exact .inr (.inl ⟨rfl, by rw [hall]⟩)
    · match ws, h with
      | first :: last :: _, h =>
        cases h
        exact .inr (.inr (.inl ⟨first, last, rfl, by rw [hblock]⟩))
    · match ws, h with
      | offset :: body, h =>
        simp only at h
        split at h
        case h_1 => cases h
        case h_2 checksum rest' hdrop =>
          cases h
          have hbody := List.take_append_drop (dataWords (startLane align offset) (lo16 w).toNat) body
          rw [hdrop] at hbody
          refine .inr (.inr (.inr ⟨w, offset, _, checksum, hflash, halign, ?_, rfl, by rw [hbody]⟩))
          have hlen := congrArg List.length hdrop
          rw [List.length_drop, List.length_cons] at hlen
          rw [List.length_take]
          omega

/-! ### The round trips -/

theorem dataWords_startLane (offset : Word) (n : Nat) :
    dataWords (startLane align offset) n = (offset.toNat % align.toNat % 4 + n + 3) / 4 := by
  rw [dataWords, startLane_eq, BitVec.toNat_umod]

/-- Settles O8, format by format: the decoder on the words of each format gives the instruction and what follows. -/
theorem decodeEncodeRoundTrip : Obligations.DecodeEncodeRoundTrip := by
  intro p align i ws rest hp hflash henc
  cases i <;> cases henc
  case wireProbe => exact decodeCommand_probe rest
  case wireEraseAll => exact decodeCommand_eraseAll hp rest
  case wireEraseBlock first last => exact decodeCommand_eraseBlock hp first last rest
  case wireFlashBlock runlen offset data checksum =>
    obtain ⟨halign, hlen⟩ := hflash runlen offset data checksum rfl
    rw [decodeLike, List.cons_append, List.cons_append, List.append_assoc, List.singleton_append,
      decodeCommand_flashBlock hp rest (hi16_flashWord0 p runlen) halign
        (by rw [lo16_flashWord0 hp, dataWords_startLane, hlen]), lo16_flashWord0 hp]
  case respDone code => rfl
  case respGeometry g0 g1 g2 g3 => rfl

/-- Settles O9: of the four formats that the decoder accepts, the encoder writes the same words. -/
theorem decodedCommandEncodesBack : Obligations.DecodedCommandEncodesBack := by
  intro p align i ws rest hp hdec
  obtain ⟨rfl, rfl⟩ | ⟨rfl, rfl⟩ | ⟨first, last, rfl, rfl⟩ | ⟨w, offset, data, checksum, hw, halign, hlen, rfl, rfl⟩ :=
    decodeCommand_ok hdec
  · exact ⟨⟨_, rfl, rfl⟩, fun _ _ _ _ h => nomatch h⟩
  · exact ⟨⟨_, rfl, rfl⟩, fun _ _ _ _ h => nomatch h⟩
  · exact ⟨⟨_, rfl, rfl⟩, fun _ _ _ _ h => nomatch h⟩
  · refine ⟨⟨_, rfl, ?_⟩, fun runlen offset data checksum h => ?_⟩
    · simp [flashWord0_lo16 hp hw]
    · cases h
      exact ⟨halign, by rw [hlen, dataWords_startLane]⟩

/-- Settles O10: word 0 meets none of the decoder's tests, in either direction. -/
theorem unknownOpcodeIsRejected : Obligations.UnknownOpcodeIsRejected := by
  intro p align w ws hdone hprobe hall hblock hflash
  have hhi : hi16 w ≠ hi16 p.opcFlashBlock := fun h => hflash (by rw [← toNat_hi16, ← toNat_hi16, h])
  have hcmd : decodeCommand p align (w :: ws) = .error (.unknownOpcode w) := by
    unfold decodeCommand
    dsimp only
    rw [if_neg hprobe, if_neg hall, if_neg hblock, if_neg hhi]
  rw [decodePacket, hcmd]
  exact if_neg hdone

/-- Settles O11: the decoder evaluated on the table's six words. -/
theorem tableWordsDecode : Obligations.TableWordsDecode := by
  unfold Obligations.TableWordsDecode
  decide

end Sys2Proof
end

section
/-! The Block Packer (40_block_packer.md): words by their lanes, the sequential form lane by lane, the checksum, and what a
packet's data words are. -/

namespace Sys2Proof

/-! ### Words by their lanes -/

theorem getLsbD_laneOf (w : Word) (j i : Nat) : (laneOf w j).getLsbD i = (decide (i < 8) && w.getLsbD (8 * j + i)) := by
  simp [laneOf]

theorem word_eq_of_lanes {a b : Word} (h : ∀ j < 4, laneOf a j = laneOf b j) : a = b := by
  refine BitVec.eq_of_getLsbD_eq fun i hi => ?_
  have hlane := congrArg (BitVec.getLsbD · (i % 8)) (h (i / 8) (by omega))
  simpa only [getLsbD_laneOf, Nat.mod_lt i (show 0 < 8 by decide), decide_true, Bool.true_and, Nat.div_add_mod] using hlane

@[simp] theorem laneOf_and (a b : Word) (j : Nat) : laneOf (a &&& b) j = laneOf a j &&& laneOf b j :=
  BitVec.eq_of_getLsbD_eq fun i hi => by simp only [getLsbD_laneOf, BitVec.getLsbD_and, hi, decide_true, Bool.true_and]

@[simp] theorem laneOf_or (a b : Word) (j : Nat) : laneOf (a ||| b) j = laneOf a j ||| laneOf b j :=
  BitVec.eq_of_getLsbD_eq fun i hi => by simp only [getLsbD_laneOf, BitVec.getLsbD_or, hi, decide_true, Bool.true_and]

@[simp] theorem laneOf_xor (a b : Word) (j : Nat) : laneOf (a ^^^ b) j = laneOf a j ^^^ laneOf b j :=
  BitVec.eq_of_getLsbD_eq fun i hi => by simp only [getLsbD_laneOf, BitVec.getLsbD_xor, hi, decide_true, Bool.true_and]

theorem laneOf_not (a : Word) {j : Nat} (hj : j < 4) : laneOf (~~~a) j = ~~~laneOf a j :=
  BitVec.eq_of_getLsbD_eq fun i hi => by
    simp only [getLsbD_laneOf, BitVec.getLsbD_not, hi, show 8 * j + i < 32 by omega, decide_true, Bool.true_and]

/-- A byte shifted into lane `k` stands there, and every other lane is 0. -/
theorem laneOf_shiftLeft (b : Byte) {k j : Nat} (hj : j < 4) :
    laneOf (b.setWidth 32 <<< (8 * k)) j = if j = k then b else 0 := by
  refine BitVec.eq_of_getLsbD_eq fun i hi => ?_
  have hbit : 8 * j + i < 32 := by omega
  rw [getLsbD_laneOf, BitVec.getLsbD_shiftLeft, BitVec.getLsbD_setWidth]
  obtain hlt | rfl | hgt := Nat.lt_trichotomy j k
  · simp [hlt.ne, show 8 * j + i < 8 * k by omega]
  · simp [hi, hbit]
    intro
    omega
  · simp [hgt.ne', BitVec.getLsbD_of_ge b (8 * j + i - 8 * k) (by omega)]

/-- A byte taken into lane `ofs` is ANDed there, and every other lane stays (40_block_packer.md R133). -/
theorem laneOf_laneIn (acc : Word) (ofs : BitVec 2) (b : Byte) {j : Nat} (hj : j < 4) :
    laneOf (Machine.laneIn acc ofs b) j = if j = ofs.toNat then laneOf acc j &&& b else laneOf acc j := by
  have hmask : laneOf ((0xFF : Word) <<< (8 * ofs.toNat)) j = if j = ofs.toNat then 0xFF else 0 := laneOf_shiftLeft 0xFF hj
  rw [Machine.laneIn, laneOf_and, laneOf_or, laneOf_not _ hj, hmask, laneOf_shiftLeft b hj]
  split
  · rw [show ~~~(0xFF : Byte) = 0#8 from rfl, BitVec.or_zero]
  · rw [show (0 : Byte) ||| ~~~0 = BitVec.allOnes 8 from rfl, BitVec.and_allOnes]

/-! ### The packed words -/

/-- A lane of a packed word, for a payload that has a byte there. -/
theorem packLane_of_getElem? {payload : List Byte} {start k j : Nat} {b : Byte} (hle : start ≤ 4 * k + j)
    (hb : payload[4 * k + j - start]? = some b) : packLane payload start k j = b := by
  rw [packLane, if_pos hle, hb, Option.getD_some]

/-- One byte appended to the payload changes its own lane only. -/
theorem packLane_append (payload : List Byte) (b : Byte) (start k j : Nat) :
    packLane (payload ++ [b]) start k j =
      if 4 * k + j = start + payload.length then b else packLane payload start k j := by
  unfold packLane
  by_cases hle : start ≤ 4 * k + j
  · rw [if_pos hle, if_pos hle, List.getElem?_append]
    split_ifs with hlt heq heq
    · omega
    · rfl
    · simp [heq]
    · rw [List.getElem?_eq_none (by simp; omega), List.getElem?_eq_none (by omega)]
  · rw [if_neg hle, if_neg hle, if_neg (by omega)]

/-- One byte of the payload set to another changes its own lane only. -/
theorem packLane_set (payload : List Byte) {i : Nat} (c : Byte) (start k j : Nat) (hi : i < payload.length) :
    packLane (payload.set i c) start k j = if 4 * k + j = start + i then c else packLane payload start k j := by
  unfold packLane
  by_cases hle : start ≤ 4 * k + j
  · rw [if_pos hle, if_pos hle, List.getElem?_set]
    split_ifs with h1 h2 h2
    · rfl
    · omega
    · omega
    · rfl
  · rw [if_neg hle, if_neg hle, if_neg (by omega)]

theorem packWord_append_of_lt {payload : List Byte} {start k : Nat} (b : Byte) (hk : k < (start + payload.length) / 4) :
    packWord (payload ++ [b]) start k = packWord payload start k := by
  refine word_eq_of_lanes fun j hj => ?_
  rw [laneOf_packWord _ _ _ hj, laneOf_packWord _ _ _ hj, packLane_append, if_neg (by omega)]

/-- The word in progress takes the appended byte into its next lane. -/
theorem packWord_append_eq_laneIn (payload : List Byte) (start : Nat) (b : Byte) :
    packWord (payload ++ [b]) start ((start + payload.length) / 4) =
      Machine.laneIn (packWord payload start ((start + payload.length) / 4)) (BitVec.ofNat 2 (start + payload.length)) b := by
  refine word_eq_of_lanes fun j hj => ?_
  rw [laneOf_packWord _ _ _ hj, laneOf_laneIn _ _ _ hj, laneOf_packWord _ _ _ hj, packLane_append, BitVec.toNat_ofNat]
  by_cases heq : 4 * ((start + payload.length) / 4) + j = start + payload.length
  · rw [if_pos heq, if_pos (by omega), packLane_filler (.inr heq.ge), show (0xFF : Byte) = BitVec.allOnes 8 from rfl,
      BitVec.allOnes_and]
  · rw [if_neg heq, if_neg (by omega)]

/-- A word all of whose lanes are beyond the payload is filler. -/
theorem packWord_beyond {payload : List Byte} {start k : Nat} (h : start + payload.length ≤ 4 * k) :
    packWord payload start k = 0xFFFFFFFF := by
  refine word_eq_of_lanes fun j hj => ?_
  rw [laneOf_packWord _ _ _ hj, packLane_filler (.inr (by omega))]
  match j with
  | 0 => rfl
  | 1 => rfl
  | 2 => rfl
  | 3 => rfl

/-! ### The checksum -/

theorem checksumOf_append (seed : Word) (ws : List Word) (w : Word) :
    checksumOf seed (ws ++ [w]) = checksumOf seed ws ^^^ w := by
  simp [checksumOf]

theorem checksumOf_xor_seed (seed d : Word) (ws : List Word) : checksumOf (seed ^^^ d) ws = checksumOf seed ws ^^^ d := by
  induction ws generalizing seed with
  | nil => rfl
  | cons w ws ih =>
    rw [checksumOf, List.foldl_cons, BitVec.xor_assoc, BitVec.xor_comm d w, ← BitVec.xor_assoc]
    exact ih (seed ^^^ w)

/-- One word changed by an exclusive or changes the checksum by the same. -/
theorem checksumOf_set_xor (seed d : Word) {ws : List Word} {k : Nat} {w : Word} (hw : ws[k]? = some w) :
    checksumOf seed (ws.set k (w ^^^ d)) = checksumOf seed ws ^^^ d := by
  induction ws generalizing seed k with
  | nil => cases hw
  | cons v ws ih =>
    cases k with
    | zero =>
      obtain rfl : v = w := Option.some.inj hw
      rw [List.set_cons_zero, checksumOf, List.foldl_cons, ← BitVec.xor_assoc]
      exact checksumOf_xor_seed (seed ^^^ v) d ws
    | succ k => exact ih (seed ^^^ v) hw

/-- Changing one byte changes its word by the exclusive or of the two bytes, in its lane, and no other word. -/
theorem packWords_set {payload : List Byte} {i : Nat} {b : Byte} (o : Word) (c : Byte) (hb : payload[i]? = some b) :
    packWords (payload.set i c) o = (packWords payload o).set ((o.toNat % 4 + i) / 4)
      (packWord payload (o.toNat % 4) ((o.toNat % 4 + i) / 4) ^^^
        ((b ^^^ c).setWidth 32 <<< (8 * ((o.toNat % 4 + i) % 4)))) := by
  obtain ⟨hi, hbi⟩ := List.getElem?_eq_some_iff.mp hb
  refine List.ext_getElem (by simp) fun k hk _ => ?_
  rw [List.getElem_set]
  simp only [packWords, List.getElem_map, List.getElem_range]
  refine word_eq_of_lanes fun j hj => ?_
  rw [laneOf_packWord _ _ _ hj, packLane_set _ _ _ _ _ hi]
  by_cases hkw : (o.toNat % 4 + i) / 4 = k
  · rw [if_pos hkw, laneOf_xor, laneOf_packWord _ _ _ hj, laneOf_shiftLeft _ hj]
    by_cases hji : j = (o.toNat % 4 + i) % 4
    · have hlane : packLane payload (o.toNat % 4) ((o.toNat % 4 + i) / 4) j = b := by
        rw [hji, packLane_payload hi, hbi]
      rw [if_pos (by omega), if_pos hji, hlane, ← BitVec.xor_assoc, BitVec.xor_self, BitVec.zero_xor]
    · rw [if_neg (by omega), if_neg hji, hkw]
      exact (BitVec.xor_zero).symm
  · rw [if_neg hkw, if_neg (by omega), laneOf_packWord _ _ _ hj]

/-- Settles O16: the checksum changes as the word does, by a word that is not 0. -/
theorem packChecksumSeesOneByte : Obligations.PackChecksumSeesOneByte := by
  intro seed o payload i b c hb hne
  have hi : i < payload.length := (List.getElem?_eq_some_iff.mp hb).1
  have hword := getElem?_packWords_of_lt (o := o) (payload_word_lt_packCount hi)
  have hsum : checksumOf seed (packWords (payload.set i c) o) =
      checksumOf seed (packWords payload o) ^^^ ((b ^^^ c).setWidth 32 <<< (8 * ((o.toNat % 4 + i) % 4))) := by
    rw [packWords_set o c hb, checksumOf_set_xor _ _ hword]
  refine ⟨hsum, fun heq => hne ?_⟩
  rw [hsum] at heq
  have hlane := congrArg (laneOf · ((o.toNat % 4 + i) % 4)) heq
  simp only [laneOf_xor, laneOf_shiftLeft _ (Nat.mod_lt _ (show 0 < 4 by decide)), if_true] at hlane
  simpa [BitVec.xor_eq_zero_iff] using hlane

/-- Settles O17: the AND is lane by lane, with 0xFF in a filler lane. -/
theorem packedWordsKeepOtherFlashBytes : Obligations.PackedWordsKeepOtherFlashBytes := by
  intro payload o flash w k j hw hj
  rw [laneOf_and, getElem?_packWords_eq_some hw, laneOf_packWord _ _ _ hj]
  refine ⟨fun hfill => ?_, fun b hle hb => ?_⟩
  · rw [packLane_filler hfill]
    exact BitVec.and_allOnes
  · rw [packLane_of_getElem? hle hb]

/-- Settles O15: the count is `ceil((b0 + n) / 4)`, and none for an empty payload. -/
theorem packWordCount : Obligations.PackWordCount := by
  intro payload o
  refine ⟨fun hne => ?_, fun hnil => ?_⟩
  · have hn : payload.length ≠ 0 := fun h => hne (List.eq_nil_of_length_eq_zero h)
    rw [length_packWords, packCount_of_ne hn, dataWords]
    omega
  · subst hnil
    exact ⟨rfl, fun _ => rfl⟩

/-! ### The data words of a packet -/

/-- Words are the packed words of the bytes they hold exactly when there are as many as these need and every other lane is
filler (40_block_packer.md R135, R136). -/
theorem eq_packWords_unpack_iff (data : List Word) (o : Word) {n : Nat} (hn : n ≠ 0) :
    data = packWords (unpack data (o.toNat % 4) n) o ↔
      data.length = dataWords (o.toNat % 4) n ∧
      ∀ k j w, data[k]? = some w → j < 4 → (4 * k + j < o.toNat % 4 ∨ o.toNat % 4 + n ≤ 4 * k + j) → laneOf w j = 0xFF := by
  constructor
  · intro h
    refine ⟨?_, fun k j w hw hj hfill => ?_⟩
    · have hlen := congrArg List.length h
      rwa [length_packWords, length_unpack, packCount_of_ne hn] at hlen
    · rw [h] at hw
      rw [getElem?_packWords_eq_some hw, laneOf_packWord _ _ _ hj, packLane_filler (by rwa [length_unpack])]
  · rintro ⟨hlen, hfill⟩
    refine List.ext_getElem (by rw [length_packWords, length_unpack, packCount_of_ne hn, hlen]) fun k hk _ => ?_
    simp only [packWords, List.getElem_map, List.getElem_range]
    refine word_eq_of_lanes fun j hj => ?_
    rw [laneOf_packWord _ _ _ hj]
    by_cases hout : 4 * k + j < o.toNat % 4 ∨ o.toNat % 4 + n ≤ 4 * k + j
    · rw [packLane_filler (by rwa [length_unpack]), hfill k j _ (List.getElem?_eq_getElem hk) hj hout]
    · refine (packLane_of_getElem? (by omega) ?_).symm
      have hi : 4 * k + j - o.toNat % 4 < n := by omega
      have hpos : o.toNat % 4 + (4 * k + j - o.toNat % 4) = 4 * k + j := by omega
      rw [unpack, List.getElem?_map, List.getElem?_range hi, Option.map_some, hpos, show (4 * k + j) / 4 = k by omega,
        show (4 * k + j) % 4 = j by omega, List.getElem?_eq_getElem hk, Option.getD_some]

end Sys2Proof
end

section
/-! The sequential form of PACK is its closed form (40_block_packer.md R133): after each byte the packer holds the closed form's
words of the bytes so far, the last of them still in progress. -/

namespace Sys2Proof.Machine

theorem memory_writeAll_append (size : Nat) (m : Memory) (k : Nat) (ws : List Word) (w : Word) :
    m.writeAll size k (ws ++ [w]) = (m.writeAll size k ws).write size (k + ws.length) w := by
  induction ws generalizing m k with
  | nil => rfl
  | cons v ws ih =>
    rw [List.cons_append, Memory.writeAll, ih, Memory.writeAll, List.length_cons, Nat.add_assoc, Nat.add_comm 1]

/-- The words of the closed form that the bytes so far complete. -/
def fullWords (bytes : List Byte) (start : Nat) : List Word :=
  (List.range ((start + bytes.length) / 4)).map (packWord bytes start)

@[simp] theorem length_fullWords (bytes : List Byte) (start : Nat) :
    (fullWords bytes start).length = (start + bytes.length) / 4 := by
  simp [fullWords]

theorem fullWords_append (bytes : List Byte) (b : Byte) (start : Nat) :
    fullWords (bytes ++ [b]) start =
      if (start + bytes.length) % 4 = 3 then
        fullWords bytes start ++ [packWord (bytes ++ [b]) start ((start + bytes.length) / 4)]
      else fullWords bytes start := by
  have hkeep : (List.range ((start + bytes.length) / 4)).map (packWord (bytes ++ [b]) start) = fullWords bytes start :=
    List.map_congr_left fun k hk => packWord_append_of_lt b (List.mem_range.mp hk)
  rw [fullWords, List.length_append, List.length_singleton]
  split
  · rw [show (start + (bytes.length + 1)) / 4 = (start + bytes.length) / 4 + 1 by omega, List.range_succ, List.map_append,
      hkeep, List.map_singleton]
  · rw [show (start + (bytes.length + 1)) / 4 = (start + bytes.length) / 4 by omega, hkeep]

/-- The packer after these bytes, by the closed form. -/
def packedSoFar (size : Nat) (seed : Word) (stg : Memory) (start : Nat) (bytes : List Byte) : Packing where
  regs :=
    { wordAcc := packWord bytes start ((start + bytes.length) / 4)
      byteOfs := BitVec.ofNat 2 (start + bytes.length)
      chkSum := checksumOf seed (fullWords bytes start)
      nWords := BitVec.ofNat 32 ((start + bytes.length) / 4) }
  stg := stg.writeAll size 2 (fullWords bytes start)

variable (size : Nat) (seed : Word) (stg : Memory)

theorem packStart_eq (o : Word) : (⟨packStart seed o, stg⟩ : Packing) = packedSoFar size seed stg (o.toNat % 4) [] := by
  have hfull : fullWords [] (o.toNat % 4) = [] := by
    rw [fullWords, List.length_nil, show (o.toNat % 4 + 0) / 4 = 0 by omega, List.range_zero, List.map_nil]
  have hacc : packWord [] (o.toNat % 4) ((o.toNat % 4 + 0) / 4) = 0xFFFFFFFF := by
    refine word_eq_of_lanes fun j hj => ?_
    rw [laneOf_packWord _ _ _ hj, packLane_filler (by simp only [List.length_nil]; omega)]
    match j with
    | 0 => rfl
    | 1 => rfl
    | 2 => rfl
    | 3 => rfl
  have hofs : o.extractLsb' 0 2 = BitVec.ofNat 2 (o.toNat % 4 + 0) := by
    rw [← BitVec.toNat_inj, BitVec.extractLsb'_toNat, BitVec.toNat_ofNat, Nat.shiftRight_zero]
    omega
  rw [packedSoFar, hfull, List.length_nil, hacc, packStart, hofs, show (o.toNat % 4 + 0) / 4 = 0 by omega]
  rfl

/-- A byte that completes a word: it is emitted, and the next word begins (40_block_packer.md R133). -/
theorem packByte_last {p : Packing} (h : p.regs.byteOfs = 3) (b : Byte) :
    packByte size p b =
      ⟨⟨0xFFFFFFFF, 0, p.regs.chkSum ^^^ laneIn p.regs.wordAcc 3 b, p.regs.nWords + 1⟩,
        p.stg.write size (2 + p.regs.nWords.toNat) (laneIn p.regs.wordAcc 3 b)⟩ := by
  simp only [packByte, h, if_true, packEmit]

/-- A byte that completes no word (40_block_packer.md R133). -/
theorem packByte_more {p : Packing} (h : p.regs.byteOfs ≠ 3) (b : Byte) :
    packByte size p b =
      ⟨⟨laneIn p.regs.wordAcc p.regs.byteOfs b, p.regs.byteOfs + 1, p.regs.chkSum, p.regs.nWords⟩, p.stg⟩ := by
  simp only [packByte, if_neg h]

/-- One more byte, from the lanes before it: into the word in progress, or completing it. -/
theorem packByte_packedSoFar {start : Nat} {bytes : List Byte} (b : Byte) (hlen : start + bytes.length < 2 ^ 33) :
    packByte size (packedSoFar size seed stg start bytes) b = packedSoFar size seed stg start (bytes ++ [b]) := by
  have hacc := packWord_append_eq_laneIn bytes start b
  have hofs : BitVec.ofNat 2 (start + bytes.length) = 3 ↔ (start + bytes.length) % 4 = 3 := by
    rw [← BitVec.toNat_inj, BitVec.toNat_ofNat]
    exact Iff.rfl
  by_cases h3 : (start + bytes.length) % 4 = 3
  · have hword : packWord (bytes ++ [b]) start ((start + bytes.length) / 4 + 1) = 0xFFFFFFFF :=
      packWord_beyond (by simp only [List.length_append, List.length_singleton]; omega)
    have hcount : (start + bytes.length) / 4 % 2 ^ 32 = (start + bytes.length) / 4 := Nat.mod_eq_of_lt (by omega)
    have hdiv : (start + (bytes.length + 1)) / 4 = (start + bytes.length) / 4 + 1 := by omega
    have hzero : BitVec.ofNat 2 (start + (bytes.length + 1)) = 0 := by
      rw [← BitVec.toNat_inj, BitVec.toNat_ofNat]
      exact show _ = 0 by omega
    rw [hofs.mpr h3] at hacc
    rw [packByte_last size (show (packedSoFar size seed stg start bytes).regs.byteOfs = 3 from hofs.mpr h3)]
    simp only [packedSoFar, List.length_append, List.length_singleton, fullWords_append, if_pos h3, checksumOf_append,
      memory_writeAll_append, length_fullWords, hdiv, hzero, hword, hacc, BitVec.toNat_ofNat, hcount, BitVec.ofNat_add]
    rfl
  · have hsucc : BitVec.ofNat 2 (start + (bytes.length + 1)) = BitVec.ofNat 2 (start + bytes.length) + 1 := by
      rw [← Nat.add_assoc, BitVec.ofNat_add]
      rfl
    rw [packByte_more size (show (packedSoFar size seed stg start bytes).regs.byteOfs ≠ 3 from mt hofs.mp h3)]
    simp only [packedSoFar, List.length_append, List.length_singleton, fullWords_append, if_neg h3,
      show (start + (bytes.length + 1)) / 4 = (start + bytes.length) / 4 by omega, hacc, hsucc]

/-- All bytes, from any place on. -/
theorem foldl_packByte {start : Nat} (bytes rest : List Byte) (hlen : start + bytes.length + rest.length < 2 ^ 33) :
    rest.foldl (packByte size) (packedSoFar size seed stg start bytes) = packedSoFar size seed stg start (bytes ++ rest) := by
  induction rest generalizing bytes with
  | nil => rw [List.foldl_nil, List.append_nil]
  | cons b rest ih =>
    rw [List.length_cons] at hlen
    rw [List.foldl_cons, packByte_packedSoFar size seed stg b (by omega),
      ih (bytes ++ [b]) (by simp only [List.length_append, List.length_singleton]; omega), List.append_assoc,
      List.singleton_append]

/-- The closed form's words: those completed, and the word in progress if it has a payload byte (40_block_packer.md R136). -/
theorem packWords_eq_fullWords (payload : List Byte) (o : Word) :
    packWords payload o =
      if payload.length ≠ 0 ∧ (o.toNat % 4 + payload.length) % 4 ≠ 0 then
        fullWords payload (o.toNat % 4) ++ [packWord payload (o.toNat % 4) ((o.toNat % 4 + payload.length) / 4)]
      else fullWords payload (o.toNat % 4) := by
  rw [packWords, packCount, fullWords]
  by_cases hn : payload.length = 0
  · rw [if_pos hn, if_neg (by simp [hn]), hn, show (o.toNat % 4 + 0) / 4 = 0 by omega]
  · rw [if_neg hn, dataWords]
    by_cases h0 : (o.toNat % 4 + payload.length) % 4 = 0
    · rw [if_neg (by simp [h0]), show (o.toNat % 4 + payload.length + 3) / 4 = (o.toNat % 4 + payload.length) / 4 by omega]
    · rw [if_pos ⟨hn, h0⟩, show (o.toNat % 4 + payload.length + 3) / 4 = (o.toNat % 4 + payload.length) / 4 + 1 by omega,
        List.range_succ, List.map_append, List.map_singleton]

/-- The sequential form, whole. -/
theorem packRun_eq {payload : List Byte} (o : Word) (hlen : payload.length < 2 ^ 32) :
    packRun size seed stg payload o =
      ⟨⟨packWord payload (o.toNat % 4) ((o.toNat % 4 + payload.length) / 4),
          BitVec.ofNat 2 (o.toNat % 4 + payload.length), checksumOf seed (packWords payload o),
          BitVec.ofNat 32 (packWords payload o).length⟩,
        stg.writeAll size 2 (packWords payload o)⟩ := by
  have hofs : BitVec.ofNat 2 (o.toNat % 4 + payload.length) ≠ 0 ↔ (o.toNat % 4 + payload.length) % 4 ≠ 0 := by
    rw [ne_eq, ← BitVec.toNat_inj, BitVec.toNat_ofNat]
    exact Iff.rfl
  rw [packRun, packStart_eq size seed stg o, foldl_packByte size seed stg [] payload (by simp; omega), List.nil_append,
    packFinish, packWords_eq_fullWords]
  by_cases hpart : payload.length ≠ 0 ∧ (o.toNat % 4 + payload.length) % 4 ≠ 0
  · have hcount : (o.toNat % 4 + payload.length) / 4 % 2 ^ 32 = (o.toNat % 4 + payload.length) / 4 :=
      Nat.mod_eq_of_lt (by omega)
    rw [if_pos hpart, if_pos (⟨hpart.1, hofs.mpr hpart.2⟩ : _ ∧ (packedSoFar ..).regs.byteOfs ≠ 0)]
    simp only [packEmit, packedSoFar, BitVec.toNat_ofNat, hcount, checksumOf_append, memory_writeAll_append,
      length_fullWords, List.length_append, List.length_singleton, BitVec.ofNat_add]
    rfl
  · rw [if_neg hpart, if_neg (fun h : _ ∧ (packedSoFar ..).regs.byteOfs ≠ 0 => hpart ⟨h.1, hofs.mp h.2⟩)]
    simp only [packedSoFar, length_fullWords]

/-- Settles O13, from the packer's state after the last byte. -/
theorem packSequentialIsClosedForm : Obligations.PackSequentialIsClosedForm := by
  intro size seed o stg payload _ hlen
  rw [packRun_eq size seed stg o hlen]
  refine ⟨rfl, rfl, rfl, ?_⟩
  rw [← BitVec.toNat_inj]
  simp only [BitVec.toNat_ofNat]
  omega

end Sys2Proof.Machine
end

section
/-! The bank by its numbers: the checks on a decoded geometry (42_probe.md R178), a sound bank, its sectors, the flag `PROBED` and
the accessors (10_state.md R30 to R35). -/

namespace Sys2Proof.Machine

theorem sectorsFit_iff (p : Params) (n : Word) : sectorsFit p n = true ↔ ∀ m, p.maxSectors = some m → n.toNat ≤ m := by
  unfold sectorsFit
  cases p.maxSectors <;> simp

/-- The checks (a) to (f) and the sector limit, as propositions (42_probe.md R178, 92_eei_decisions.md D5). -/
theorem bank_valid_iff (p : Params) (b : Bank) :
    b.valid p = true ↔
      b.sectCount ≠ 0 ∧ b.totalSize % b.sectCount = 0 ∧ b.bufLen ≠ 0 ∧ b.bufAlign ≤ b.bufLen ∧
      b.bufLen % b.bufAlign = 0 ∧ b.bufLen % 4 = 0 ∧ ∀ m, p.maxSectors = some m → b.sectCount.toNat ≤ m := by
  simp only [Bank.valid, Bool.and_eq_true, bne_iff_ne, beq_iff_eq, decide_eq_true_eq, sectorsFit_iff, and_assoc]

theorem word_ne_zero_iff (w : Word) : w ≠ 0 ↔ w.toNat ≠ 0 := by
  rw [ne_eq, ← BitVec.toNat_inj]
  exact Iff.rfl

theorem word_umod_eq_zero_iff (a b : Word) : a % b = 0 ↔ a.toNat % b.toNat = 0 := by
  rw [← BitVec.toNat_inj, BitVec.toNat_umod]
  exact Iff.rfl

/-- Settles O33: each check of the decoded bank, by the numbers of the geometry words. -/
theorem geometryChecks : Obligations.GeometryChecks := by
  intro p g
  have hfour : g.decode.bufLen % 4 = 0 ↔ g.g3.toNat % 2 ^ 16 % 4 = 0 := by
    rw [word_umod_eq_zero_iff, toNat_decode_bufLen]
    exact Iff.rfl
  rw [bank_valid_iff, word_ne_zero_iff, word_umod_eq_zero_iff, word_ne_zero_iff, BitVec.le_def, word_umod_eq_zero_iff, hfour,
    toNat_decode_bufLen]
  constructor
  · rintro ⟨hsect, hwhole, hlen, hle, hdiv, hfour, hlimit⟩
    exact ⟨toNat_decode_bufAlign g, hsect, hwhole, hlen, hle, hdiv, hfour, hlimit⟩
  · rintro ⟨-, hsect, hwhole, hlen, hle, hdiv, hfour, hlimit⟩
    exact ⟨hsect, hwhole, hlen, hle, hdiv, hfour, hlimit⟩

/-- An accepted geometry describes a sound bank (10_state.md R32). -/
theorem bankSound_decode {p : Params} {g : Geom} (h : g.decode.valid p = true) : BankSound g.decode := by
  obtain ⟨hsect, hwhole, hlen, hle, hdiv, hfour, -⟩ := (bank_valid_iff p g.decode).mp h
  have hfour' := (word_umod_eq_zero_iff _ _).mp hfour
  rw [toNat_decode_bufLen, show (4 : Word).toNat = 4 from rfl] at hfour'
  refine ⟨hsect, hwhole, hlen, hfour, ?_, ?_, hle, hdiv⟩
  · rw [BitVec.le_def, toNat_decode_bufLen, show (0xFFFC : Word).toNat = 0xFFFC from rfl]
    omega
  · rw [word_ne_zero_iff, toNat_decode_bufAlign]
    split
    · exact one_ne_zero
    · assumption

/-! ### The flag and the sector table -/

theorem bank_probed_iff (b : Bank) : b.probed = true ↔ b.sectCount ≠ 0 ∧ b.bufLen ≠ 0 ∧ b.bufAlign ≠ 0 := by
  simp only [Bank.probed, Bool.and_eq_true, bne_iff_ne, and_assoc]

theorem BankSound.probed {b : Bank} (h : BankSound b) : b.probed = true :=
  (bank_probed_iff b).mpr ⟨h.sectors, h.bufferNonzero, h.alignNonzero⟩

/-- A bank that is all or nothing is sound where it is probed (10_state.md R33, R34). -/
theorem BankOk.sound_of_probed {b : Bank} (h : BankOk b) (hp : b.probed = true) : BankSound b := by
  obtain rfl | hsound := h
  · cases hp
  · exact hsound

/-- Settles O58: on both kinds of bank the three tests have the same value. -/
theorem probedTestsAgree : Obligations.ProbedTestsAgree := by
  intro b hb
  obtain rfl | hsound := hb
  · have hnot : ¬ BankSound Bank.unprobed := fun h => h.sectors rfl
    refine ⟨iff_of_false (by decide) hnot, iff_of_false (by decide) (by decide), iff_of_false (by decide) (by decide)⟩
  · have hpos : 0 < b.sectCount.toNat := Nat.pos_of_ne_zero ((word_ne_zero_iff _).mp hsound.sectors)
    exact ⟨iff_of_true hsound.probed hsound, iff_of_true hsound.probed hpos,
      iff_of_true hsound.probed ⟨hsound.bufferNonzero, hsound.alignNonzero⟩⟩

theorem sect_of_lt {b : Bank} {i : Nat} (h : i < b.sectCount.toNat) :
    b.sect i = some ⟨BitVec.ofNat 32 i * (b.totalSize / b.sectCount), b.totalSize / b.sectCount, .unknown, .unknown⟩ := if_pos h

theorem sect_of_ge {b : Bank} {i : Nat} (h : b.sectCount.toNat ≤ i) : b.sect i = none := if_neg (by omega)

/-- No offset of a sector wraps: all of them are below `TOTAL_SIZE`. -/
theorem toNat_sector_offset {b : Bank} {i : Nat} (h : i < b.sectCount.toNat) :
    (BitVec.ofNat 32 i * (b.totalSize / b.sectCount)).toNat = i * (b.totalSize.toNat / b.sectCount.toNat) := by
  have hsect := b.sectCount.isLt
  have htotal := b.totalSize.isLt
  have hle : i * (b.totalSize.toNat / b.sectCount.toNat) ≤ b.totalSize.toNat :=
    (Nat.mul_le_mul_right _ h.le).trans (Nat.mul_div_le ..)
  rw [BitVec.toNat_mul, BitVec.toNat_ofNat, BitVec.toNat_udiv, Nat.mod_eq_of_lt (show i < 2 ^ 32 by omega),
    Nat.mod_eq_of_lt (by omega)]

/-- Settles O57: the sectors are `SECT_COUNT` equal parts of `TOTAL_SIZE`, which they divide. -/
theorem sectorsPartitionTheBank : Obligations.SectorsPartitionTheBank := by
  intro b hb
  refine ⟨fun i hi => sect_of_ge hi, fun i hi => ⟨_, sect_of_lt hi, BitVec.toNat_udiv, ?_, rfl, rfl, fun hlast => ?_⟩⟩
  · rw [toNat_sector_offset hi, BitVec.toNat_udiv]
  · have hwhole := (word_umod_eq_zero_iff _ _).mp hb.wholeSectors
    calc (BitVec.ofNat 32 i * (b.totalSize / b.sectCount)).toNat + (b.totalSize / b.sectCount).toNat
        = (i + 1) * (b.totalSize.toNat / b.sectCount.toNat) := by
          rw [toNat_sector_offset hi, BitVec.toNat_udiv, Nat.add_mul, Nat.one_mul]
      _ = b.totalSize.toNat := by rw [hlast, Nat.mul_div_cancel' (Nat.dvd_of_mod_eq_zero hwhole)]

/-! ### Accessors -/

/-- A read gives the register where the operation in progress cannot write it and the last error defines it. -/
theorem access_content {s : State} {a : Accessor} (n : Nat) (hw : mayWrite s.op a = false) (hd : defines s.err a = true) :
    access n a s = content s a := by
  simp [access, hw, hd]

theorem mayWrite_bank {op : OpKind} {a : Accessor} (h : op ≠ .probe) (ha : a.ofBank = true) : mayWrite op a = false := by
  cases op <;> simp_all [mayWrite]

theorem mayWrite_none (a : Accessor) : mayWrite .none a = false := rfl

theorem mayWrite_failOffset {op : OpKind} (h : op ≠ .write) : mayWrite op .failOffset = false := by
  cases op <;> simp_all [mayWrite, Accessor.ofBank]

/-- Settles O59: the bank's registers outside a PROBE, `FAIL_OFFSET` outside a WRITE, the others with none in progress. -/
theorem accessorsReadTheRegisters : Obligations.AccessorsReadTheRegisters := by
  intro s n
  refine ⟨fun hop => ?_, fun hbusy => ?_, fun hop hvalid hkind => ?_⟩
  · have hbank : ∀ a : Accessor, a.ofBank = true → defines s.err a = true → access n a s = content s a :=
      fun a ha hd => access_content n (mayWrite_bank hop ha) hd
    exact ⟨hbank _ rfl rfl, hbank _ rfl rfl, hbank _ rfl rfl, hbank _ rfl rfl, hbank _ rfl rfl, hbank _ rfl rfl,
      fun i => hbank (.sect i) rfl rfl⟩
  · have hop : s.op = .none := by simpa [Block.State.busy] using hbusy
    have hread : ∀ a : Accessor, defines s.err a = true → access n a s = content s a :=
      fun a hd => access_content n (by rw [hop]; exact mayWrite_none a) hd
    exact ⟨hread _ rfl, fun hk => ⟨hread .errTag (by simp [defines, hk]), hread .errRaw (by simp [defines, hk])⟩,
      fun hk => hread .errTransport (by simp [defines, hk])⟩
  · exact access_content n (mayWrite_failOffset hop) (by simp [defines, hvalid, hkind])

/-! ### Reset -/

/-- Settles O1: the reset values of 10_state.md R51, read off. -/
theorem resetLeavesAnIdleUnprobedBlock : Obligations.ResetLeavesAnIdleUnprobedBlock :=
  ⟨reset_bank, reset_op, reset_pstate, by rw [reset_err], by rw [Block.State.probed, reset_bank]; rfl,
    by rw [Block.State.busy, reset_op]; rfl, fun i => by rw [Block.State.sect, reset_bank]; exact sect_of_ge (Nat.zero_le i)⟩

theorem memory_nil_wf : Memory.wf [] = true := by decide

theorem memory_nil_within (size : Nat) : Memory.within size [] = true := rfl

/-- An unprobed block with nothing in flight and an empty `STG` satisfies the invariant, under legal parameters. -/
theorem inv_of_idle_unprobed {s : State} (hp : s.cfg.wf) (hstg : s.stg = []) (hbank : s.bank = Bank.unprobed)
    (hphase : s.phase = .idle) (hop : s.op = .none) (hwhole : s.whole = false) : Inv s where
  params := hp
  staging := by rw [hstg]; exact memory_nil_wf
  stagingSize := by rw [hstg]; exact memory_nil_within _
  packet := fun n h => by rw [hphase] at h; cases h
  bank := .inl hbank
  sequencing := by
    unfold PhaseOk
    rw [hphase]
    exact ⟨hop, hwhole⟩
  noStaleError := fun h => absurd hop h

/-- Settles O2: the default parameters are legal, and the rest of the reset state is idle and unprobed. -/
theorem resetSatisfiesInvariant : Obligations.ResetSatisfiesInvariant :=
  inv_of_idle_unprobed (by rw [reset_cfg]; decide) reset_stg reset_bank reset_phase reset_op reset_whole

end Sys2Proof.Machine
end

section
/-! A tick, by its cases: `TickTo` lists what a tick can do, and here a tick does what `TickTo` lists. -/

namespace Sys2Proof.Machine

/-! ### Ticks, by their cases -/

section

variable {τ : Type} [Inhabited τ]

/-- A tick at a call, from the answer of its reply. -/
theorem tick_of_answer {s t : Block.State τ} {p : Phase} {r : Block.Reply τ} {rs : List (Block.Reply τ)} (hp : s.phase = p)
    (hi : p.internal = false) (hne : p ≠ .idle) (hr : s.replies = r :: rs) (ht : answer r { s with replies := rs } = t) :
    tick s = some t := by
  rw [tick_call (hp ▸ hi) (hp ▸ hne) hr, ht]

/-- A tick at an internal computation. -/
theorem tick_of_compute {s t : Block.State τ} {p : Phase} (hp : s.phase = p) (hi : p.internal = true) (ht : compute s = t) :
    tick s = some t := by
  rw [tick_internal (hp ▸ hi), ht]

/-- `TickTo` lists what a tick does, and a tick does it. -/
theorem TickTo.tick {s t : Block.State τ} (h : TickTo s t) : tick s = some t := by
  cases h
  case runErase hp hr hg ho =>
    exact tick_of_answer hp rfl nofun hr (by simp only [answer, hp, answerRun, hg, ho, if_true, startErase_eq, Block.State.log])
  case runWrite hp hr hg ho =>
    exact tick_of_answer hp rfl nofun hr (by simp only [answer, hp, answerRun, hg, ho, if_true, Block.State.log])
  case runBare hp hr hg ho =>
    refine tick_of_answer hp rfl nofun hr ?_
    obtain ho | ho := ho <;> simp only [answer, hp, answerRun, hg, ho, if_true, Block.State.log]
  case runDown hp hr hg =>
    exact tick_of_answer hp rfl nofun hr (by simp only [answer, hp, answerRun, hg, Bool.false_eq_true, if_false, Block.State.log])
  case pollOver hp hr hg hx =>
    exact tick_of_answer hp rfl nofun hr (by
      simp only [answer, hp, answerPoll, hg, if_true, Block.State.log]
      exact if_pos hx)
  case pollWord hp hr hg hx =>
    exact tick_of_answer hp rfl nofun hr (by
      simp only [answer, hp, answerPoll, hg, if_true, Block.State.log]
      exact if_neg (by simpa [drainExceeded] using hx))
  case pollEnd hp hr hg hw =>
    exact tick_of_answer hp rfl nofun hr (by
      simp only [answer, hp, answerPoll, hg, Bool.false_eq_true, if_false, afterDrain, Block.State.log, hw, if_true])
  case pollEndBare hp hr hg hw =>
    exact tick_of_answer hp rfl nofun hr (by
      simp only [answer, hp, answerPoll, hg, Bool.false_eq_true, if_false, afterDrain, Block.State.log, hw])
  case drainWord hp hr hg =>
    exact tick_of_answer hp rfl nofun hr (by simp only [answer, hp, answerDrain, hg, if_true, Block.State.log])
  case drainFail hp hr hg =>
    exact tick_of_answer hp rfl nofun hr (by
      simp only [answer, hp, answerDrain, hg, Bool.false_eq_true, if_false, Block.State.log])
  case sendOk hp hr hg =>
    exact tick_of_answer hp rfl nofun hr (by simp only [answer, hp, answerSend, hg, if_true, Block.State.log])
  case sendFail hp hr hg =>
    exact tick_of_answer hp rfl nofun hr (by
      simp only [answer, hp, answerSend, hg, Bool.false_eq_true, if_false, Block.State.log])
  case handshake hp => exact tick_of_compute hp rfl (by simp only [compute, hp, callHandshake])
  case ack hp hr hg =>
    exact tick_of_answer hp rfl nofun hr (by simp only [answer, hp, answerAck, hg, if_true, Block.State.log])
  case noAck hp hr hg =>
    exact tick_of_answer hp rfl nofun hr (by
      simp only [answer, hp, answerAck, hg, Bool.false_eq_true, if_false, Block.State.log])
  case response hp hr hg =>
    exact tick_of_answer hp rfl nofun hr (by simp only [answer, hp, answerResponse, hg, if_true, Block.State.log])
  case responseFail hp hr hg =>
    exact tick_of_answer hp rfl nofun hr (by
      simp only [answer, hp, answerResponse, hg, Bool.false_eq_true, if_false, Block.State.log])
  case doneBare hp hd hw =>
    refine tick_of_compute hp rfl ?_
    rw [compute_respCheck hp, checkResponse_of_eq hd]
    obtain hw | hw := hw <;> simp [afterCycle, hw]
  case doneProbe hp hd hw ho =>
    refine tick_of_compute hp rfl ?_
    rw [compute_respCheck hp, checkResponse_of_eq hd]
    simp only [afterCycle, hw, ho, if_true, startGeomRead]
  case doneErase hp hd hw ho =>
    refine tick_of_compute hp rfl ?_
    rw [compute_respCheck hp, checkResponse_of_eq hd]
    simp only [afterCycle, hw, ho, if_true]
  case doneWrite hp hd hw ho =>
    refine tick_of_compute hp rfl ?_
    rw [compute_respCheck hp, checkResponse_of_eq hd]
    simp only [afterCycle, hw, ho, if_true]
  case notDone hp hd => exact tick_of_compute hp rfl (by rw [compute_respCheck hp, checkResponse_of_ne hd])
  case geomAck hp hr hg =>
    exact tick_of_answer hp rfl nofun hr (by simp only [answer, hp, answerGeomAck, hg, if_true, Block.State.log])
  case geomKeep hp hr hg ht =>
    exact tick_of_answer hp rfl nofun hr (by simp only [answer, hp, answerGeomAck, hg, Bool.false_eq_true, if_false, ht, if_true])
  case geomTimeout hp hr hg ht =>
    exact tick_of_answer hp rfl nofun hr (by
      simp only [answer, hp, answerGeomAck, hg, Bool.false_eq_true, if_false, if_neg ht, Block.State.log])
  case geomWord hp hr hg hi =>
    exact tick_of_answer hp rfl nofun hr (by
      simp only [answer, hp, answerGeomWord, hg, if_true, if_neg hi, Block.State.log])
  case geomLast hp hr hg hi hw =>
    exact tick_of_answer hp rfl nofun hr (by
      simp only [answer, hp, answerGeomWord, hg, if_true, hi, afterGeomRead, hw, Block.State.log]
      rfl)
  case geomLastBare hp hr hg hi hw =>
    exact tick_of_answer hp rfl nofun hr (by
      simp only [answer, hp, answerGeomWord, hg, if_true, hi, afterGeomRead, hw, Block.State.log]
      rfl)
  case geomFail hp hr hg =>
    exact tick_of_answer hp rfl nofun hr (by
      simp only [answer, hp, answerGeomWord, hg, Bool.false_eq_true, if_false, Block.State.log])
  case geomAccepted hp hv => exact tick_of_compute hp rfl (by simp only [compute, hp, checkGeometry, hv, if_true])
  case geomRejected hp hv =>
    exact tick_of_compute hp rfl (by simp only [compute, hp, checkGeometry, hv, Bool.false_eq_true, if_false])
  case chunkNone hp hn => exact tick_of_compute hp rfl (by simp only [compute, hp, nextChunk, if_pos hn])
  case chunkNext hp hn => exact tick_of_compute hp rfl (by simp only [compute, hp, nextChunk, if_neg hn])

theorem TickTo.runOn {s t : Block.State τ} (h : TickTo s t) : runOn s = runOn t := runOn_tick h.tick

theorem runOn_idle {s : Block.State τ} (h : s.phase = .idle) : runOn s = s := runOn_stop (tick_idle h)

theorem runOn_waiting {s : Block.State τ} (hi : s.phase.internal = false) (hr : s.replies = []) : runOn s = s :=
  runOn_stop ((tick_none_iff s).mpr (.inr ⟨hi, hr⟩))

theorem runOn_raiseError (c : Bool) (e : Block.ErrInfo τ) (s : Block.State τ) : runOn (raiseError c e s) = raiseError c e s :=
  runOn_idle (raiseError_phase c e s)

theorem runOn_finishOk (s : Block.State τ) : runOn (finishOk s) = finishOk s := runOn_idle (finishOk_phase s)

end

end Sys2Proof.Machine
end

section
/-! How an instruction starts, said once: `Launched` lists the states an instruction starts running from. -/

namespace Sys2Proof.Machine

/-- A block with nothing in flight that is about to start a bare part. -/
abbrev Block.State.bare {τ : Type} (s : Block.State τ) : Block.State τ := { s with whole := false }

/-- Where an instruction that is accepted starts running: the five command cycles, and the other five instructions that are no
response (30_encoding.md R90 to R98). -/
inductive Launched (s : State) : Instr → State → Prop where
  | command {i tag packet} (hc : commandOf s.cfg i = some (tag, packet))
      (hwf : i.wf s.cfg s.bank.bufLen s.bank.bufAlign = true) : Launched s i (startCommand tag packet s.bare)
  | pack (payload : List Byte) (o : Word) : Launched s (.pack payload o) (applyPack payload o s.bare)
  | drain : Launched s .drain (startDrain s.bare)
  | geomRead : Launched s .geomRead (startGeomRead s.bare)
  | probe : Launched s .hostProbe (beginProbe s.bare)
  | eraseUnprobed (first last : Word) (hb : s.probed = false) :
      Launched s (.hostErase first last) (raiseError false .bankNotProbed (accept .erase ⟨first, last, 0, []⟩ s.bare))
  | erase (first last : Word) (hb : s.probed = true) :
      Launched s (.hostErase first last) { accept .erase ⟨first, last, 0, []⟩ s.bare with phase := .runCheck }
  | writeUnprobed (offset : Word) (payload : List Byte) (hp : payloadTooLong s.cfg payload = false) (hb : s.probed = false) :
      Launched s (.hostWrite offset payload)
        (raiseError false .bankNotProbed (accept .write ⟨0, 0, offset, payload⟩ s.bare))
  | write (offset : Word) (payload : List Byte) (hp : payloadTooLong s.cfg payload = false) (hb : s.probed = true) :
      Launched s (.hostWrite offset payload) { accept .write ⟨0, 0, offset, payload⟩ s.bare with phase := .runCheck }

/-! ### The host operations at their first gate -/

theorem beginErase_unprobed (first last : Word) {s : State} (h : s.probed = false) :
    beginErase first last s.bare = raiseError false .bankNotProbed (accept .erase ⟨first, last, 0, []⟩ s.bare) :=
  if_neg (by simpa [Block.State.probed] using h)

theorem beginErase_probed (first last : Word) {s : State} (h : s.probed = true) :
    beginErase first last s.bare = { accept .erase ⟨first, last, 0, []⟩ s.bare with phase := .runCheck } :=
  if_pos (by simpa [Block.State.probed] using h)

theorem beginWrite_unprobed (offset : Word) (payload : List Byte) {s : State} (h : s.probed = false) :
    beginWrite offset payload s.bare =
      raiseError false .bankNotProbed (accept .write ⟨0, 0, offset, payload⟩ s.bare) :=
  if_neg (by simpa [Block.State.probed] using h)

theorem beginWrite_probed (offset : Word) (payload : List Byte) {s : State} (h : s.probed = true) :
    beginWrite offset payload s.bare = { accept .write ⟨0, 0, offset, payload⟩ s.bare with phase := .runCheck } :=
  if_pos (by simpa [Block.State.probed] using h)

/-! ### The meanings -/

/-- A command cycle starts: a wire command, or CYCLE from `IDLE` (41_protocol_cycle.md R151). -/
theorem exec_command {s : State} {i : Instr} {tag : Tag} {packet : List Word} (hc : commandOf s.cfg i = some (tag, packet))
    (hwf : i.wf s.cfg s.bank.bufLen s.bank.bufAlign = true) (he : s.engaged = false)
    (hidle : i = .cycle tag packet → s.pstate = .idle) :
    exec i s = .next (runOn (startCommand tag packet s.bare)) := by
  cases i <;> cases hc
  case wireProbe => exact launch_ready he
  case wireEraseAll => exact launch_ready he
  case wireEraseBlock first last => exact launch_ready he
  case wireFlashBlock runlen offset data checksum => exact (launchIf_emits hwf).trans (launch_ready he)
  case cycle =>
    exact (if_pos (.inl (hidle rfl))).trans ((launchIf_emits hwf).trans (launch_ready he))

theorem exec_pack {s : State} (payload : List Byte) (o : Word) (he : s.engaged = false) :
    exec (.pack payload o) s = .next (runOn (applyPack payload o s.bare)) := launch_ready he

theorem exec_drain {s : State} (he : s.engaged = false) : exec .drain s = .next (runOn (startDrain s.bare)) := launch_ready he

theorem exec_geomRead {s : State} (he : s.engaged = false) :
    exec .geomRead s = .next (runOn (startGeomRead s.bare)) := launch_ready he

theorem exec_hostProbe {s : State} (he : s.engaged = false) :
    exec .hostProbe s = .next (runOn (beginProbe s.bare)) := launch_ready he

theorem exec_hostErase_unprobed {s : State} (first last : Word) (he : s.engaged = false) (hb : s.probed = false) :
    exec (.hostErase first last) s =
      .next (raiseError false .bankNotProbed (accept .erase ⟨first, last, 0, []⟩ s.bare)) := by
  rw [← runOn_raiseError, ← beginErase_unprobed first last hb]
  exact launch_ready he

theorem exec_hostErase {s : State} (first last : Word) (he : s.engaged = false) (hb : s.probed = true) :
    exec (.hostErase first last) s =
      .next (runOn { accept .erase ⟨first, last, 0, []⟩ s.bare with phase := .runCheck }) := by
  rw [← beginErase_probed first last hb]
  exact launch_ready he

theorem exec_hostWrite_unprobed {s : State} (offset : Word) {payload : List Byte} (he : s.engaged = false)
    (hp : payloadTooLong s.cfg payload = false) (hb : s.probed = false) :
    exec (.hostWrite offset payload) s =
      .next (raiseError false .bankNotProbed (accept .write ⟨0, 0, offset, payload⟩ s.bare)) := by
  rw [← runOn_raiseError, ← beginWrite_unprobed offset payload hb]
  exact (if_neg (by simp [hp])).trans (launch_ready he)

theorem exec_hostWrite {s : State} (offset : Word) {payload : List Byte} (he : s.engaged = false)
    (hp : payloadTooLong s.cfg payload = false) (hb : s.probed = true) :
    exec (.hostWrite offset payload) s =
      .next (runOn { accept .write ⟨0, 0, offset, payload⟩ s.bare with phase := .runCheck }) := by
  rw [← beginWrite_probed offset payload hb]
  exact (if_neg (by simp [hp])).trans (launch_ready he)

/-- Everything an instruction can go on to that is no response. -/
theorem exec_next {i : Instr} {s t : State} (h : exec i s = .next t) (hresp : ∀ c, i ≠ .respDone c)
    (hgeom : ∀ a b c d, i ≠ .respGeometry a b c d) : s.engaged = false ∧ ∃ u, Launched s i u ∧ t = runOn u := by
  cases i
  case respDone c => exact absurd rfl (hresp c)
  case respGeometry a b c d => exact absurd rfl (hgeom a b c d)
  case wireFlashBlock runlen offset data checksum =>
    obtain ⟨hwf, h⟩ := launchIf_next h
    obtain ⟨he, rfl⟩ := launch_next h
    exact ⟨he, _, .command rfl hwf, rfl⟩
  case cycle tag packet =>
    simp only [exec, execCycle] at h
    split at h
    · obtain ⟨hwf, h⟩ := launchIf_next h
      obtain ⟨he, rfl⟩ := launch_next h
      exact ⟨he, _, .command rfl hwf, rfl⟩
    · cases h
  case hostWrite offset payload =>
    simp only [exec, execHostWrite] at h
    split at h
    · cases h
    · rename_i hlong
      obtain ⟨he, rfl⟩ := launch_next h
      have hp : payloadTooLong s.cfg payload = false := by simpa [he] using hlong
      cases hb : s.probed
      · exact ⟨he, _, .writeUnprobed offset payload hp hb, by rw [beginWrite_unprobed offset payload hb]⟩
      · exact ⟨he, _, .write offset payload hp hb, by rw [beginWrite_probed offset payload hb]⟩
  case wireProbe => exact (launch_next h).imp_right fun ht => ⟨_, .command rfl rfl, ht⟩
  case wireEraseAll => exact (launch_next h).imp_right fun ht => ⟨_, .command rfl rfl, ht⟩
  case wireEraseBlock first last => exact (launch_next h).imp_right fun ht => ⟨_, .command rfl rfl, ht⟩
  case hostProbe => exact (launch_next h).imp_right fun ht => ⟨_, .probe, ht⟩
  case hostErase first last =>
    obtain ⟨he, rfl⟩ := launch_next h
    cases hb : s.probed
    · exact ⟨he, _, .eraseUnprobed first last hb, by rw [beginErase_unprobed first last hb]⟩
    · exact ⟨he, _, .erase first last hb, by rw [beginErase_probed first last hb]⟩
  case pack payload o => exact (launch_next h).imp_right fun ht => ⟨_, .pack payload o, ht⟩
  case drain => exact (launch_next h).imp_right fun ht => ⟨_, .drain, ht⟩
  case geomRead => exact (launch_next h).imp_right fun ht => ⟨_, .geomRead, ht⟩

/-! ### Payloads -/

theorem payloadTooLong_iff (p : Params) (payload : List Byte) :
    payloadTooLong p payload = true ↔ 2 ^ 32 ≤ payload.length ∨ ∃ m, p.maxPayload = some m ∧ m < payload.length := by
  unfold payloadTooLong
  cases p.maxPayload <;> simp

theorem length_of_payload_fits {p : Params} {payload : List Byte} (h : payloadTooLong p payload = false) :
    payload.length < 2 ^ 32 := by
  by_contra hlong
  exact absurd ((payloadTooLong_iff p payload).mpr (.inl (by omega))) (by simp [h])

/-- Settles O60: the guard of WRITE's meaning, by the length. -/
theorem overlongPayloadIsRefused : Obligations.OverlongPayloadIsRefused :=
  fun s _ payload he hlong => if_pos ⟨he, (payloadTooLong_iff s.cfg payload).mpr hlong⟩

/-- Settles O23: every meaning but the two responses' asks first that nothing is in flight. -/
theorem nothingIsAcceptedWhileEngaged : Obligations.NothingIsAcceptedWhileEngaged := by
  intro s i he hresp hgeom
  have hif : ∀ (emits : Bool) start, launchIf emits start s = .refused .operationInProgress := fun emits start =>
    (if_neg (by simp [he])).trans (launch_engaged he)
  cases i
  case respDone c => exact absurd rfl (hresp c)
  case respGeometry a b c d => exact absurd rfl (hgeom a b c d)
  case wireFlashBlock runlen offset data checksum => exact hif _ _
  case cycle tag packet => exact (if_pos (.inr he)).trans (hif _ _)
  case hostWrite offset payload => exact (if_neg (by simp [he])).trans (launch_engaged he)
  case wireProbe => exact launch_engaged he
  case wireEraseAll => exact launch_engaged he
  case wireEraseBlock first last => exact launch_engaged he
  case hostProbe => exact launch_engaged he
  case hostErase first last => exact launch_engaged he
  case pack payload o => exact launch_engaged he
  case drain => exact launch_engaged he
  case geomRead => exact launch_engaged he

/-- Settles O12: the packer registers and `STG` as the sequential form leaves them; nothing runs on, for nothing is in flight. -/
theorem packExecutes : Obligations.PackExecutes := by
  intro s payload o he hstg hlen
  have hphase : (applyPack payload o s.bare).phase = .idle := ((engaged_eq_false_iff s).mp he).2
  have hcount : (packWords payload o).length < 2 ^ 32 := by
    rw [length_packWords, packCount, dataWords]
    split <;> omega
  refine ⟨applyPack payload o s.bare, by rw [exec_pack payload o he, runOn_idle hphase], rfl, ?_, ?_, ?_, ?_⟩
  all_goals simp only [applyPack, packRun_eq _ _ _ o hlen]
  · rw [BitVec.toNat_ofNat, Nat.mod_eq_of_lt hcount]
  · intro k w hw hk
    rw [memory_read_writeAll _ hstg, if_pos ⟨Nat.le_add_right .., hk⟩, Nat.add_sub_cancel_left, hw, Option.getD_some]
  · intro j hj
    rw [memory_read_writeAll _ hstg]
    split
    · rw [List.getElem?_eq_none (by omega), Option.getD_none]
    · rfl

/-- Settles O22: the precondition of CYCLE, the packets it sends, and the negation of what a legal flash-block is. -/
theorem cycleOutsideIdleHasNoTransition : Obligations.CycleOutsideIdleHasNoTransition := by
  refine ⟨fun s tag packet he hp => if_neg (by simp [he, hp]), fun s tag packet he hp hpacket => ?_,
    fun s runlen offset data checksum he => ?_⟩
  · exact (if_pos (.inl hp)).trans (by rw [hpacket, launchIf_refuses he])
  · have hrefused : exec (.wireFlashBlock runlen offset data checksum) s = .refused .illFormed ↔
        ¬ flashLegal s.cfg s.bank.bufLen s.bank.bufAlign runlen offset data checksum = true := by
      refine ⟨fun h hlegal => ?_, fun h => ?_⟩
      · rw [exec_command (i := .wireFlashBlock runlen offset data checksum) rfl hlegal he nofun] at h
        cases h
      · rw [Bool.not_eq_true] at h
        simp only [exec, execWireFlashBlock, h]
        exact launchIf_refuses he
    rw [hrefused, flashLegal_iff]
    by_cases hrun : runlen = 0
    · simp [hrun]
    have hrun' : runlen.toNat ≠ 0 := fun h => hrun (BitVec.eq_of_toNat_eq h)
    rw [startLane_eq, eq_packWords_unpack_iff _ _ hrun', BitVec.toNat_umod, dataWords]
    constructor
    · intro h
      by_contra hall
      simp only [not_or, not_exists, not_and, not_not, not_lt] at hall
      obtain ⟨-, halign, hfit, hlen, hbuf, hsum, hfill⟩ := hall
      exact h ⟨halign, hrun, hfit, hbuf, ⟨hlen, fun k j w hw hj hout => hfill k j w hw hj hout⟩, hsum⟩
    · rintro (h | h | h | h | h | h | ⟨k, j, w, hw, hj, hout, hne⟩) ⟨halign, -, hfit, hbuf, ⟨hlen, hfill⟩, hsum⟩
      · exact hrun h
      · exact halign h
      · omega
      · exact h hlen
      · omega
      · exact h hsum
      · exact hne (hfill k j w hw hj hout)

end Sys2Proof.Machine
end

section
/-! One step (10_state.md R22, 70_reset_and_hazards.md R262): what it fetches, and everything it can do; and a response word,
which is the next answer of the receive that the block is in. -/

namespace Sys2Proof.Machine

variable {s t : State}

/-! ### A response word -/

/-- A response word inside a receive is the environment's next answer (41_protocol_cycle.md R155; log entry 13). -/
theorem exec_respDone_receiving (code : Word) (h : s.phase.receiving = true) :
    exec (.respDone code) s = .next (runOn { s with replies := ⟨true, code, default⟩ :: s.replies }) := by
  have hi : s.phase.internal = false := by cases hp : s.phase <;> simp [hp, Phase.receiving, Phase.internal] at h ⊢
  have hne : s.phase ≠ .idle := fun hp => by simp [hp, Phase.receiving] at h
  rw [runOn_call (s := { s with replies := ⟨true, code, default⟩ :: s.replies }) hi hne rfl]
  simp only [exec, execRespDone, takeWord, h, if_true]

/-- Outside a receive the block does not see it (log entry 13). -/
theorem exec_respDone_unread (code : Word) (h : s.phase.receiving = false) : exec (.respDone code) s = .next s :=
  if_neg (by simp [h])

theorem exec_respGeometry_unread (g0 g1 g2 g3 : Word) (h : s.phase.receiving = false) (hp : s.phase ≠ .geomWait) :
    exec (.respGeometry g0 g1 g2 g3) s = .next s :=
  if_neg (by simp [h, hp])

/-- The response read by a step is the answer of the receive that the block waits in: of a good answer only the word counts. -/
theorem exec_respDone_of_reply {r : Reply} {rs : List Reply} (hp : s.phase = .respRead) (hr : s.replies = r :: rs)
    (hg : r.good = true) : exec (.respDone r.word) { s with replies := rs } = .next (runOn s) := by
  rw [exec_respDone_receiving (s := { s with replies := rs }) r.word (by simp [hp, Phase.receiving]),
    (TickTo.response hp hr hg).runOn, (TickTo.response (s := { s with replies := ⟨true, r.word, default⟩ :: rs }) hp rfl rfl).runOn]

/-! ### What is fetched -/

theorem fetch_idle (hp : s.phase = .idle) : fetch s = fetchCall s := if_pos hp

theorem fetch_respRead (hp : s.phase = .respRead) : fetch s = fetchResponse s := by simp [fetch, hp]

theorem fetch_elsewhere (hi : s.phase ≠ .idle) (hr : s.phase ≠ .respRead) : fetch s = .resume := by simp [fetch, hi, hr]

/-- A submission is taken from the front of the caller's list. -/
theorem fetchCall_run {i : Instr} (h : fetchCall s = .run i t) : ∃ c rest, s.calls = c :: rest ∧ t = { s with calls := rest } := by
  unfold fetchCall at h
  split at h
  case h_1 => cases h
  case h_2 op rest hc =>
    cases h
    exact ⟨_, rest, hc, rfl⟩
  case h_3 j rest hc =>
    cases h
    exact ⟨_, rest, hc, rfl⟩
  case h_4 ws rest hc =>
    split at h <;> cases h
    exact ⟨_, rest, hc, rfl⟩

theorem fetchCall_ne_resume : fetchCall s ≠ .resume := by
  unfold fetchCall
  split
  case h_4 => split <;> nofun
  all_goals nofun

/-! ### The step, by what is fetched -/

theorem step_reset (h : s.resetLine = true) : step s = .next s.resetNow := if_pos h

theorem step_wait (h : s.resetLine = false) (hf : fetch s = .wait) : step s = .next s := by
  simp [step, h, hf]

theorem step_resume (h : s.resetLine = false) (hf : fetch s = .resume) : step s = .next (runOn s) := by
  simp [step, h, hf]

theorem step_run {i : Instr} (h : s.resetLine = false) (hf : fetch s = .run i t)
    (hwf : i.wf t.cfg t.bank.bufLen t.bank.bufAlign = true) : step s = exec i t := by
  simp [step, h, hf, hwf]

theorem step_run_next {i : Instr} {u : State} (h : s.resetLine = false) (hf : fetch s = .run i u) (ht : step s = .next t) :
    exec i u = .next t := by
  simp only [step, h, Bool.false_eq_true, if_false, hf] at ht
  split at ht
  · exact ht
  · cases ht

/-- Whatever is in flight goes on, also where the step reads the response. -/
theorem step_in_flight (h : s.resetLine = false) (hp : s.phase ≠ .idle) : step s = .next (runOn s) := by
  by_cases hr : s.phase = .respRead
  · cases hreplies : s.replies with
    | nil =>
      rw [step_wait h (by rw [fetch_respRead hr, fetchResponse, hreplies]), runOn_waiting (by rw [hr]; rfl) hreplies]
    | cons r rs =>
      cases hg : r.good with
      | false => exact step_resume h (by simp [fetch_respRead hr, fetchResponse, hreplies, hg])
      | true =>
        rw [step_run (i := .respDone r.word) (t := { s with replies := rs }) h
          (by simp [fetch_respRead hr, fetchResponse, hreplies, hg]) rfl]
        exact exec_respDone_of_reply hr hreplies hg
  · exact step_resume h (fetch_elsewhere hp hr)

/-- Everything a step that is no reset can do: what is in flight goes on; nothing waits; a response comes that an idle block does
not see; an instruction starts. -/
inductive StepTo (s : State) : State → Prop where
  | inFlight (hp : s.phase ≠ .idle) : StepTo s (runOn s)
  | wait (hp : s.phase = .idle) (hf : fetch s = .wait) : StepTo s s
  | unread {i c rest} (hp : s.phase = .idle) (hc : s.calls = c :: rest) (hf : fetch s = .run i { s with calls := rest })
      (hi : i ≠ .hostProbe) : StepTo s { s with calls := rest }
  | start {i c rest u} (hp : s.phase = .idle) (hop : s.op = .none) (hc : s.calls = c :: rest)
      (hf : fetch s = .run i { s with calls := rest })
      (hwf : i.wf s.cfg s.bank.bufLen s.bank.bufAlign = true) (hl : Launched { s with calls := rest } i u) : StepTo s (runOn u)

theorem step_to (h : s.resetLine = false) (ht : step s = .next t) : StepTo s t := by
  by_cases hp : s.phase = .idle
  · cases hf : fetch s with
    | wait =>
      rw [step_wait h hf] at ht
      cases ht
      exact .wait hp hf
    | resume => exact absurd (fetch_idle hp ▸ hf) fetchCall_ne_resume
    | reject e => simp [step, h, hf] at ht
    | run i u =>
      obtain ⟨c, rest, hc, rfl⟩ := fetchCall_run (fetch_idle hp ▸ hf)
      have hexec := step_run_next h hf ht
      have hwf : i.wf s.cfg s.bank.bufLen s.bank.bufAlign = true := by
        by_contra hill
        simp [step, h, hf, hill] at ht
      have hread : Phase.receiving s.phase = false := by rw [hp]; rfl
      cases i
      case respDone code =>
        cases (exec_respDone_unread (s := { s with calls := rest }) code hread).symm.trans hexec
        exact .unread hp hc hf nofun
      case respGeometry g0 g1 g2 g3 =>
        cases (exec_respGeometry_unread (s := { s with calls := rest }) g0 g1 g2 g3 hread (by simp [hp])).symm.trans hexec
        exact .unread hp hc hf nofun
      all_goals
        obtain ⟨he, u, hl, rfl⟩ := exec_next hexec nofun nofun
        exact .start hp ((engaged_eq_false_iff _).mp he).1 hc hf hwf hl
  · rw [step_in_flight h hp] at ht
    cases ht
    exact .inFlight hp

/-! ### The statements about the step itself -/

/-- Settles O4: each of the four sources, as `fetch` finds it. -/
theorem stepRunsFetchedInstruction : Obligations.StepRunsFetchedInstruction := by
  intro s i h hwf
  refine ⟨fun op rest hp hc hi => ?_, fun rest hp hc => ?_, fun ws extra rest hp hc hd => ?_, fun r rest hp hr hg hi => ?_⟩
  · subst hi
    exact step_run h (by rw [fetch_idle hp, fetchCall, hc]) hwf
  · exact step_run h (by rw [fetch_idle hp, fetchCall, hc]) hwf
  · exact step_run h (by simp only [fetch_idle hp, fetchCall, hc, hd]) hwf
  · subst hi
    exact step_run h (by simp [fetch_respRead hp, fetchResponse, hr, hg]) hwf

/-- Settles O5: the step is `resetNow`, and its fields are those of the reset state. -/
theorem resetAbandonsTheOperation : Obligations.ResetAbandonsTheOperation := by
  intro s h
  exact ⟨s.resetNow, step_reset h, resetNow_bank s, resetNow_op s, resetNow_pstate s, by rw [resetNow_err],
    (engaged_eq_false_iff _).mpr ⟨resetNow_op s, resetNow_phase s⟩, resetNow_resetLine s, resetNow_results s,
    resetNow_trace s, resetNow_replies s, resetNow_calls s, resetNow_cfg s⟩

/-- Settles O6: nothing is fetched, or what is in flight has no tick. -/
theorem waitingChangesNothing : Obligations.WaitingChangesNothing := by
  intro s h
  refine ⟨fun hp hc => step_wait h (by rw [fetch_idle hp, fetchCall, hc]), fun hp hi hr => ?_⟩
  rw [step_in_flight h hp, runOn_waiting hi hr]

/-! ### The error entry -/

/-- Settles O55: `raiseError`, field by field (60_exceptions.md R236). -/
theorem errorEntry : Obligations.ErrorEntry := by
  intro s inCycle e hop
  refine ⟨fun hprobe => by simp [hprobe], fun hprobe he => by simp [hprobe, he], fun j hj => ?_, fun hc hw => by simp [hc, hw],
    fun h => ?_, rfl, ?_, ?_, rfl, rfl, ?_, rfl⟩
  · rw [raiseError_bank] at hj
    rw [raiseError_stg]
    split_ifs at hj ⊢
    · rw [memory_read_fit, if_pos hj]
    · rfl
  · rw [raiseError_err, record_failOffset, if_neg (by rintro ⟨hc, hw⟩; simp_all), Option.getD_none]
  · rintro g w rfl
    exact ⟨rfl, rfl⟩
  · rintro x rfl
    rfl
  · exact ⟨_, by rw [raiseError_results, if_neg hop]⟩

end Sys2Proof.Machine
end

section
/-! What every tick leaves, and the history of a run: parameters are constant, answers and submissions are taken from the front,
events and results are added at the end (10_state.md R21). -/

namespace Sys2Proof.Machine

section

variable {τ : Type} [Inhabited τ] {s t : Block.State τ}

theorem TickTo.cfg (h : TickTo s t) : t.cfg = s.cfg := by cases h <;> rfl

theorem TickTo.args (h : TickTo s t) : t.args = s.args := by cases h <;> rfl

theorem TickTo.calls (h : TickTo s t) : t.calls = s.calls := by cases h <;> rfl

theorem TickTo.packed (h : TickTo s t) : t.packed = s.packed := by cases h <;> rfl

/-- A tick takes no answer or the next one. -/
theorem TickTo.replies (h : TickTo s t) : t.replies = s.replies ∨ ∃ r, s.replies = r :: t.replies := by
  cases h
  case handshake | doneBare | doneProbe | doneErase | doneWrite | notDone | geomAccepted | geomRejected | chunkNone | chunkNext =>
    exact .inl rfl
  all_goals exact .inr ⟨_, ‹s.replies = _›⟩

/-- A tick makes no event or one. -/
theorem TickTo.trace (h : TickTo s t) : t.trace = s.trace ∨ ∃ e, t.trace = s.trace ++ [e] := by
  cases h
  case handshake | doneBare | doneProbe | doneErase | doneWrite | notDone | geomKeep | geomAccepted | geomRejected | chunkNone |
      chunkNext =>
    exact .inl rfl
  all_goals exact .inr ⟨_, rfl⟩

omit [Inhabited τ] in
theorem raiseError_results_cases (c : Bool) (e : Block.ErrInfo τ) (s : Block.State τ) :
    (raiseError c e s).results = s.results ∨ ∃ r, (raiseError c e s).results = s.results ++ [r] := by
  rw [raiseError_results]
  split
  · exact .inl rfl
  · exact .inr ⟨_, rfl⟩

omit [Inhabited τ] in
theorem finishOk_results_cases (s : Block.State τ) :
    (finishOk s).results = s.results ∨ ∃ r, (finishOk s).results = s.results ++ [r] := by
  rw [finishOk_results]
  split
  · exact .inl rfl
  · exact .inr ⟨_, rfl⟩

/-- A tick delivers no result or one. -/
theorem TickTo.results (h : TickTo s t) : t.results = s.results ∨ ∃ r, t.results = s.results ++ [r] := by
  cases h
  case runDown | pollOver | drainFail | sendFail | noAck | responseFail | notDone | geomTimeout | geomFail | geomRejected =>
    exact raiseError_results_cases _ _ _
  case doneErase | geomAccepted | chunkNone => exact finishOk_results_cases _
  all_goals exact .inl rfl

end

/-- What the parameters, the inputs and the history of a later state have to do with those of an earlier one. -/
structure Later (s t : State) : Prop where
  cfg : t.cfg = s.cfg
  calls : t.calls <:+ s.calls
  replies : t.replies <:+ s.replies
  trace : s.trace <+: t.trace
  results : s.results <+: t.results

theorem Later.refl (s : State) : Later s s := ⟨rfl, List.suffix_refl _, List.suffix_refl _, List.prefix_refl _, List.prefix_refl _⟩

theorem Later.trans {s t u : State} (h : Later s t) (h' : Later t u) : Later s u :=
  ⟨h'.cfg.trans h.cfg, h'.calls.trans h.calls, h'.replies.trans h.replies, h.trace.trans h'.trace, h.results.trans h'.results⟩

theorem prefix_of_eq_or_append {α : Type} {xs ys : List α} (h : ys = xs ∨ ∃ x, ys = xs ++ [x]) : xs <+: ys := by
  obtain rfl | ⟨x, rfl⟩ := h
  · exact List.prefix_refl _
  · exact List.prefix_append ..

theorem TickTo.later {s t : State} (h : TickTo s t) : Later s t where
  cfg := h.cfg
  calls := by rw [h.calls]
  replies := by
    obtain hr | ⟨r, hr⟩ := h.replies
    · rw [hr]
    · rw [hr]
      exact List.suffix_cons ..
  trace := prefix_of_eq_or_append h.trace
  results := prefix_of_eq_or_append h.results

theorem later_runOn (s : State) : Later s (runOn s) :=
  runOn_keeps (P := Later s) (fun _ _ h ht => h.trans (tick_to ht).later) (Later.refl s)

/-- The start of an instruction touches no input and makes no event; it delivers a result only for an unprobed bank. -/
theorem Launched.later {s u : State} {i : Instr} (h : Launched s i u) : Later s u := by
  have hresults : s.results <+: u.results := by
    cases h
    case eraseUnprobed | writeUnprobed => exact prefix_of_eq_or_append (raiseError_results_cases ..)
    all_goals exact List.prefix_refl _
  have hrest : u.cfg = s.cfg ∧ u.calls = s.calls ∧ u.replies = s.replies ∧ u.trace = s.trace := by
    cases h <;> exact ⟨rfl, rfl, rfl, rfl⟩
  obtain ⟨hcfg, hcalls, hreplies, htrace⟩ := hrest
  exact ⟨hcfg, by rw [hcalls], by rw [hreplies], by rw [htrace], hresults⟩

theorem later_takeCall {s : State} {c : Call} {rest : List Call} (hc : s.calls = c :: rest) : Later s { s with calls := rest } :=
  ⟨rfl, hc ▸ List.suffix_cons .., List.suffix_refl _, List.prefix_refl _, List.prefix_refl _⟩

/-- Settles O7: every tick and every start of an instruction leads to a later state, and so does a reset. -/
theorem stepKeepsParametersAndHistory : Obligations.StepKeepsParametersAndHistory := by
  intro s t ht
  have hlater : Later s t := by
    cases hreset : s.resetLine
    · cases step_to hreset ht
      case inFlight => exact later_runOn s
      case wait => exact Later.refl s
      case unread hc _ _ => exact later_takeCall hc
      case start hc _ _ hl => exact (later_takeCall hc).trans (hl.later.trans (later_runOn _))
    · rw [step_reset hreset] at ht
      cases ht
      exact ⟨rfl, List.suffix_refl _, List.suffix_refl _, List.prefix_refl _, List.prefix_refl _⟩
  exact ⟨hlater.cfg, hlater.calls, hlater.replies, hlater.trace, hlater.results⟩

end Sys2Proof.Machine
end

section
/-! The chunks of a WRITE on a sound bank (44_write.md R203 to R207): the length of a chunk, its packet, which is one legal
flash-block, and the chunk sequence. -/

namespace Sys2Proof.Machine

/-! ### Which packets are the block's -/

theorem isPacketOf_iff (p : Params) (len align : Word) (tag : Tag) (packet : List Word) :
    isPacketOf p len align tag packet = true ↔
      ∃ i, decodeCommand p align packet = .ok (i, []) ∧ tagOf i = some tag ∧ i.emittable p len align = true := by
  unfold isPacketOf
  split
  case h_1 i rest hd =>
    simp only [Bool.and_eq_true, decide_eq_true_eq, List.isEmpty_iff, hd, Except.ok.injEq, Prod.mk.injEq]
    constructor
    · rintro ⟨⟨ht, rfl⟩, he⟩
      exact ⟨i, ⟨rfl, rfl⟩, ht, he⟩
    · rintro ⟨j, ⟨rfl, rfl⟩, ht, he⟩
      exact ⟨⟨ht, rfl⟩, he⟩
  case h_2 e hd => simp [hd]

/-- A packet of the block fits `STG` (30_encoding.md R102, 44_write.md R207). -/
theorem isPacketOf_fits {p : Params} {b : Bank} {tag : Tag} {packet : List Word}
    (h : isPacketOf p b.bufLen b.bufAlign tag packet = true) : packet.length ≤ b.stgWords := by
  obtain ⟨i, hd, -, he⟩ := (isPacketOf_iff ..).mp h
  unfold Bank.stgWords
  obtain ⟨-, rfl⟩ | ⟨-, rfl⟩ | ⟨first, last, -, rfl⟩ | ⟨w, offset, data, checksum, -, -, -, rfl, rfl⟩ := decodeCommand_ok hd
  · simp
  · simp
  · simp
  · obtain ⟨-, -, -, hbuf, -, -⟩ := (flashLegal_iff ..).mp he
    simp only [List.length_cons, List.length_append, List.length_nil]
    omega

/-- The packet of a command that is well formed is one of the block's. -/
theorem isPacketOf_commandOf {p : Params} {len align : Word} {i : Instr} {tag : Tag} {packet : List Word} (hp : p.wf)
    (hc : commandOf p i = some (tag, packet)) (hwf : i.wf p len align = true) : isPacketOf p len align tag packet = true := by
  cases i <;> cases hc
  case wireProbe => exact (isPacketOf_iff ..).mpr ⟨_, decodeCommand_probe [], rfl, rfl⟩
  case wireEraseAll => exact (isPacketOf_iff ..).mpr ⟨_, decodeCommand_eraseAll hp [], rfl, rfl⟩
  case wireEraseBlock first last => exact (isPacketOf_iff ..).mpr ⟨_, decodeCommand_eraseBlock hp first last [], rfl, rfl⟩
  case wireFlashBlock runlen offset data checksum =>
    have hlen := flashLegal_length hwf
    refine (isPacketOf_iff ..).mpr ⟨_, decodeCommand_flashBlock hp [] (hi16_flashWord0 p runlen)
      ((flashLegal_iff ..).mp hwf).1 ?_, rfl, ?_⟩
    · rw [← lo16_flashWord0 hp runlen] at hlen
      exact hlen
    · show flashLegal p len align (lo16 (flashWord0 p (zext32 runlen))) offset data checksum = true
      rw [lo16_flashWord0 hp]
      exact hwf
  case cycle => exact hwf

theorem isPacketOf_eraseCommand {p : Params} (hp : p.wf) (b : Bank) (first last len align : Word) :
    isPacketOf p len align (eraseCommand p b first last).1 (eraseCommand p b first last).2 = true := by
  unfold eraseCommand
  split
  · exact isPacketOf_commandOf (i := .wireEraseAll) hp rfl rfl
  · exact isPacketOf_commandOf (i := .wireEraseBlock first last) hp rfl rfl

/-! ### The length of a chunk -/

section

variable {b : Bank} (hb : BankSound b)
include hb

theorem toNat_umod_bufAlign_lt (offset : Word) : (offset % b.bufAlign).toNat < b.bufAlign.toNat ∧ b.bufAlign.toNat ≤ b.bufLen.toNat := by
  rw [BitVec.toNat_umod]
  exact ⟨Nat.mod_lt _ (Nat.pos_of_ne_zero ((word_ne_zero_iff _).mp hb.alignNonzero)), hb.alignBound⟩

/-- The smaller of the bytes that remain and the room up to the end of the device buffer (44_write.md R203). -/
theorem toNat_chunkLen (offset remaining : Word) :
    (b.chunkLen offset remaining).toNat = min remaining.toNat (b.bufLen.toNat - (offset % b.bufAlign).toNat) := by
  obtain ⟨hlt, hle⟩ := toNat_umod_bufAlign_lt hb offset
  have hroom : (b.bufLen - offset % b.bufAlign).toNat = b.bufLen.toNat - (offset % b.bufAlign).toNat :=
    BitVec.toNat_sub_of_le (BitVec.le_def.mpr (by omega))
  unfold Bank.chunkLen
  split_ifs with h <;> rw [BitVec.le_def] at h <;> omega

theorem chunkLen_pos (offset : Word) {remaining : Word} (h : remaining ≠ 0) : 1 ≤ (b.chunkLen offset remaining).toNat := by
  have hrem := (word_ne_zero_iff _).mp h
  obtain ⟨hlt, hle⟩ := toNat_umod_bufAlign_lt hb offset
  rw [toNat_chunkLen hb]
  omega

theorem chunkLen_le (offset remaining : Word) : (b.chunkLen offset remaining).toNat ≤ remaining.toNat := by
  rw [toNat_chunkLen hb]
  exact min_le_left ..

theorem chunkLen_fits (offset remaining : Word) :
    (offset % b.bufAlign).toNat + (b.chunkLen offset remaining).toNat ≤ b.bufLen.toNat := by
  obtain ⟨hlt, hle⟩ := toNat_umod_bufAlign_lt hb offset
  rw [toNat_chunkLen hb]
  omega

theorem bufLen_bound : b.bufLen.toNat ≤ 0xFFFC ∧ b.bufLen.toNat % 4 = 0 :=
  ⟨hb.bufferBound, (word_umod_eq_zero_iff _ _).mp hb.bufferWords⟩

/-! ### The packet of a chunk -/

variable {payload : List Byte} (hne : payload ≠ []) (hlen : payload.length < 2 ^ 32) (offset : Word)

omit hb in
include hlen in
theorem toNat_ofNat_length : (BitVec.ofNat 32 payload.length).toNat = payload.length := by
  rw [BitVec.toNat_ofNat, Nat.mod_eq_of_lt hlen]

omit hb in
include hne hlen in
theorem ofNat_length_ne_zero : BitVec.ofNat 32 payload.length ≠ 0 := by
  rw [word_ne_zero_iff, toNat_ofNat_length hlen]
  exact fun h => hne (List.eq_nil_of_length_eq_zero h)

include hlen in
/-- The chunk has as many bytes as its length says. -/
theorem length_chunk_bytes :
    (payload.take (b.chunkLen offset (BitVec.ofNat 32 payload.length)).toNat).length =
      (b.chunkLen offset (BitVec.ofNat 32 payload.length)).toNat := by
  have hle := chunkLen_le hb offset (BitVec.ofNat 32 payload.length)
  rw [toNat_ofNat_length hlen] at hle
  rw [List.length_take, min_eq_left hle]

omit hb in
/-- Only the lane of the start offset counts (40_block_packer.md R134). -/
theorem packWords_congr (payload : List Byte) {o o' : Word} (h : o.toNat % 4 = o'.toNat % 4) :
    packWords payload o = packWords payload o' := by
  rw [packWords, packWords, h]

omit hb in
theorem toNat_chunkLane (b : Bank) (offset : Word) : (b.chunkLane offset).toNat % 4 = (offset % b.bufAlign).toNat % 4 := by
  rw [Bank.chunkLane, BitVec.toNat_umod (y := 4)]
  exact Nat.mod_mod ..

include hne hlen in
theorem length_chunkData :
    (chunkData b payload offset).length =
      dataWords (startLane b.bufAlign offset) (b.chunkLen offset (BitVec.ofNat 32 payload.length)).toNat := by
  have hpos := chunkLen_pos hb offset (ofNat_length_ne_zero hne hlen)
  rw [chunkData, length_packWords, length_chunk_bytes hb hlen, packCount_of_ne (by omega), toNat_chunkLane, startLane_eq]

include hne hlen in
/-- A chunk has no more data words than the device buffer holds (44_write.md R207). -/
theorem length_chunkData_le : (chunkData b payload offset).length ≤ b.bufLen.toNat / 4 := by
  obtain ⟨-, hfour⟩ := bufLen_bound hb
  have hfits := chunkLen_fits hb offset (BitVec.ofNat 32 payload.length)
  rw [length_chunkData hb hne hlen, dataWords, startLane_eq]
  omega

omit hb in
theorem length_chunkPacket (p : Params) (b : Bank) (payload : List Byte) (offset : Word) :
    (chunkPacket p b payload offset).length = (chunkData b payload offset).length + 3 := by
  simp [chunkPacket, flashPacket]

include hne hlen in
theorem length_chunkPacket_le (p : Params) : (chunkPacket p b payload offset).length ≤ b.stgWords := by
  have := length_chunkData_le hb hne hlen offset
  rw [length_chunkPacket, Bank.stgWords]
  omega

/-- The length of a chunk is a run length of 16 bits (30_encoding.md R98). -/
theorem zext32_lo16_chunkLen (remaining : Word) :
    zext32 (lo16 (b.chunkLen offset remaining)) = b.chunkLen offset remaining := by
  obtain ⟨hbound, -⟩ := bufLen_bound hb
  have hfits := chunkLen_fits hb offset remaining
  rw [← BitVec.toNat_inj, toNat_zext32, toNat_lo16]
  omega

theorem toNat_lo16_chunkLen (remaining : Word) :
    (lo16 (b.chunkLen offset remaining)).toNat = (b.chunkLen offset remaining).toNat := by
  rw [← toNat_zext32, zext32_lo16_chunkLen hb]

include hne hlen in
theorem flashLegal_chunk (p : Params) :
    flashLegal p b.bufLen b.bufAlign (lo16 (b.chunkLen offset (BitVec.ofNat 32 payload.length))) offset
      (chunkData b payload offset) (checksumOf p.chksInit (chunkData b payload offset)) = true := by
  have hpos := chunkLen_pos hb offset (ofNat_length_ne_zero hne hlen)
  have hrun := toNat_lo16_chunkLen hb offset (BitVec.ofNat 32 payload.length)
  refine (flashLegal_iff ..).mpr ⟨hb.alignNonzero, fun h0 => ?_, ?_, length_chunkData_le hb hne hlen offset, ?_, rfl⟩
  · rw [h0] at hrun
    exact absurd hrun (by simp; omega)
  · rw [hrun]
    exact chunkLen_fits hb offset _
  · have hback := unpack_packWords (payload.take (b.chunkLen offset (BitVec.ofNat 32 payload.length)).toNat)
      (offset % b.bufAlign)
    rw [length_chunk_bytes hb hlen] at hback
    rw [hrun, startLane_eq, chunkData, packWords_congr _ (toNat_chunkLane b offset), hback]

include hne hlen in
/-- The packet of a chunk decodes as one flash-block with nothing over. -/
theorem decodeCommand_chunkPacket {p : Params} (hp : p.wf) :
    decodeCommand p b.bufAlign (chunkPacket p b payload offset) =
      .ok (.wireFlashBlock (lo16 (b.chunkLen offset (BitVec.ofNat 32 payload.length))) offset (chunkData b payload offset)
        (checksumOf p.chksInit (chunkData b payload offset)), []) := by
  have hzext := zext32_lo16_chunkLen hb offset (BitVec.ofNat 32 payload.length)
  have hlo := lo16_flashWord0 hp (lo16 (b.chunkLen offset (BitVec.ofNat 32 payload.length)))
  have hhi := hi16_flashWord0 p (lo16 (b.chunkLen offset (BitVec.ofNat 32 payload.length)))
  rw [hzext] at hlo hhi
  have hdec := decodeCommand_flashBlock (align := b.bufAlign) (data := chunkData b payload offset) (offset := offset)
    (checksum := checksumOf p.chksInit (chunkData b payload offset)) hp [] hhi hb.alignNonzero
    (by rw [hlo, toNat_lo16_chunkLen hb]; exact length_chunkData hb hne hlen offset)
  rw [hlo] at hdec
  exact hdec

include hne hlen in
theorem isPacketOf_chunkPacket {p : Params} (hp : p.wf) :
    isPacketOf p b.bufLen b.bufAlign .flashBlock (chunkPacket p b payload offset) = true :=
  (isPacketOf_iff ..).mpr ⟨_, decodeCommand_chunkPacket hb hne hlen offset hp, rfl, flashLegal_chunk hb hne hlen offset p⟩

end

/-! ### The chunk sequence -/

/-- What stays of the payload after its first chunk. -/
def afterChunk (b : Bank) (payload : List Byte) (offset : Word) : List Byte :=
  payload.drop (b.chunkLen offset (BitVec.ofNat 32 payload.length)).toNat

/-- Where the chunk after the first starts. -/
def nextOffset (b : Bank) (payload : List Byte) (offset : Word) : Word :=
  offset + b.chunkLen offset (BitVec.ofNat 32 payload.length)

@[simp] theorem chunksOf_nil (b : Bank) (offset : Word) : chunksOf b [] offset = [] := rfl

theorem chunkSeq_cons (b : Bank) (fuel : Nat) {payload : List Byte} (offset : Word) (hne : payload ≠ []) :
    chunkSeq b (fuel + 1) payload offset =
      (offset, payload) :: chunkSeq b fuel (afterChunk b payload offset) (nextOffset b payload offset) := by
  cases payload with
  | nil => exact absurd rfl hne
  | cons x xs => rfl

section

variable {b : Bank} (hb : BankSound b) {payload : List Byte} (hlen : payload.length < 2 ^ 32) (offset : Word)
include hb hlen

omit hb hlen in
theorem length_afterChunk : (afterChunk b payload offset).length =
    payload.length - (b.chunkLen offset (BitVec.ofNat 32 payload.length)).toNat := by
  rw [afterChunk, List.length_drop]

theorem length_afterChunk_lt (hne : payload ≠ []) : (afterChunk b payload offset).length < payload.length := by
  have hpos := chunkLen_pos hb offset (ofNat_length_ne_zero hne hlen)
  have hle := List.length_pos_of_ne_nil hne
  rw [length_afterChunk]
  omega

omit hlen in
/-- Enough fuel is enough: each chunk has a byte (44_write.md R203). -/
theorem chunkSeq_eq_chunksOf {fuel : Nat} {payload : List Byte} (hlen : payload.length < 2 ^ 32) (offset : Word)
    (hfuel : payload.length ≤ fuel) : chunkSeq b fuel payload offset = chunksOf b payload offset := by
  have key : ∀ n m (payload : List Byte) (offset : Word), payload.length < 2 ^ 32 → payload.length ≤ n → payload.length ≤ m →
      chunkSeq b n payload offset = chunkSeq b m payload offset := by
    intro n
    induction n with
    | zero =>
      intro m payload offset _ hn _
      obtain rfl : payload = [] := List.eq_nil_of_length_eq_zero (Nat.le_zero.mp hn)
      cases m <;> rfl
    | succ n ih =>
      intro m payload offset hlen hn hm
      by_cases hne : payload = []
      · subst hne
        cases m <;> rfl
      · have hlt := length_afterChunk_lt hb hlen offset hne
        cases m with
        | zero => omega
        | succ m =>
          rw [chunkSeq_cons b n offset hne, chunkSeq_cons b m offset hne, ih m _ _ (by omega) (by omega) (by omega)]
  exact key fuel payload.length payload offset hlen hfuel le_rfl

/-- The sequence is the first chunk and that of what stays. -/
theorem chunksOf_cons (hne : payload ≠ []) :
    chunksOf b payload offset =
      (offset, payload) :: chunksOf b (afterChunk b payload offset) (nextOffset b payload offset) := by
  have hlt := length_afterChunk_lt hb hlen offset hne
  obtain ⟨n, hn⟩ : ∃ n, payload.length = n + 1 := Nat.exists_eq_add_one.mpr (by omega)
  rw [chunksOf, hn, chunkSeq_cons b n offset hne, chunkSeq_eq_chunksOf hb (by omega) _ (by omega)]

omit hlen in
/-- Induction over the chunks of a payload: the empty one, and one with a first chunk. -/
theorem chunk_induction {P : List Byte → Word → Prop} (hnil : ∀ offset, P [] offset)
    (hcons : ∀ (payload : List Byte) (offset : Word), payload ≠ [] → payload.length < 2 ^ 32 →
      P (afterChunk b payload offset) (nextOffset b payload offset) → P payload offset)
    {payload : List Byte} (hlen : payload.length < 2 ^ 32) (offset : Word) : P payload offset := by
  have key : ∀ n (payload : List Byte) (offset : Word), payload.length ≤ n → payload.length < 2 ^ 32 → P payload offset := by
    intro n
    induction n with
    | zero =>
      intro payload offset hn _
      obtain rfl : payload = [] := List.eq_nil_of_length_eq_zero (Nat.le_zero.mp hn)
      exact hnil offset
    | succ n ih =>
      intro payload offset hn hlen
      by_cases hne : payload = []
      · subst hne
        exact hnil offset
      · have hlt := length_afterChunk_lt hb hlen offset hne
        exact hcons payload offset hne hlen (ih _ _ (by omega) (by omega))
  exact key payload.length payload offset le_rfl hlen

end

/-- What the chunks are, one by one: the payload in order, each chunk where the one before it ended, none outside the device
buffer (44_write.md R206). -/
theorem chunksOf_cover {b : Bank} (hb : BankSound b) {payload : List Byte} (hlen : payload.length < 2 ^ 32) (offset : Word) :
    (chunksOf b payload offset).flatMap (fun ch => ch.2.take (b.chunkLen ch.1 (BitVec.ofNat 32 ch.2.length)).toNat) = payload := by
  refine chunk_induction hb (P := fun payload offset => (chunksOf b payload offset).flatMap
    (fun ch => ch.2.take (b.chunkLen ch.1 (BitVec.ofNat 32 ch.2.length)).toNat) = payload) (fun _ => rfl) ?_ hlen offset
  intro payload offset hne hlen ih
  rw [chunksOf_cons hb hlen offset hne, List.flatMap_cons, ih, afterChunk, List.take_append_drop]

theorem chunksOf_next {b : Bank} (hb : BankSound b) {payload : List Byte} (hlen : payload.length < 2 ^ 32) (offset : Word) :
    ∀ m ch next, (chunksOf b payload offset)[m]? = some ch → (chunksOf b payload offset)[m + 1]? = some next →
      next = (nextOffset b ch.2 ch.1, afterChunk b ch.2 ch.1) := by
  refine chunk_induction hb (P := fun payload offset => ∀ m ch next, (chunksOf b payload offset)[m]? = some ch →
    (chunksOf b payload offset)[m + 1]? = some next → next = (nextOffset b ch.2 ch.1, afterChunk b ch.2 ch.1)) (by simp) ?_ hlen offset
  intro payload offset hne hlen ih m ch next hch hnext
  rw [chunksOf_cons hb hlen offset hne] at hch hnext
  cases m with
  | succ m => exact ih m ch next hch hnext
  | zero =>
    obtain rfl : (offset, payload) = ch := Option.some.inj hch
    rw [List.getElem?_cons_succ] at hnext
    by_cases hnil : afterChunk b payload offset = []
    · rw [hnil] at hnext
      cases hnext
    · have hlt := length_afterChunk_lt hb hlen offset hne
      rw [chunksOf_cons hb (by omega) _ hnil] at hnext
      exact (Option.some.inj hnext).symm

theorem chunksOf_nonempty {b : Bank} (hb : BankSound b) {payload : List Byte} (hlen : payload.length < 2 ^ 32) (offset : Word) :
    ∀ ch ∈ chunksOf b payload offset, ch.2 ≠ [] ∧ ch.2.length < 2 ^ 32 := by
  refine chunk_induction hb (P := fun payload offset => ∀ ch ∈ chunksOf b payload offset, ch.2 ≠ [] ∧ ch.2.length < 2 ^ 32)
    (by simp) ?_ hlen offset
  intro payload offset hne hlen ih ch hch
  rw [chunksOf_cons hb hlen offset hne] at hch
  obtain rfl | hch := List.mem_cons.mp hch
  · exact ⟨hne, hlen⟩
  · exact ih ch hch

/-- A chunk that is not the last fills the device buffer up to its end, so where its offset does not wrap the next starts at a
multiple of the alignment (44_write.md R203). -/
theorem nextOffset_aligned {b : Bank} (hb : BankSound b) {payload : List Byte} (hlen : payload.length < 2 ^ 32) {offset : Word}
    (hmore : afterChunk b payload offset ≠ []) (hwrap : offset.toNat + payload.length ≤ 2 ^ 32) :
    nextOffset b payload offset % b.bufAlign = 0 := by
  have hrest := List.length_pos_of_ne_nil hmore
  have hchunk := toNat_chunkLen hb offset (BitVec.ofNat 32 payload.length)
  rw [length_afterChunk, hchunk] at hrest
  rw [toNat_ofNat_length hlen] at hchunk hrest
  obtain ⟨hlt, hle⟩ := toNat_umod_bufAlign_lt hb offset
  have hdiv := Nat.dvd_of_mod_eq_zero ((word_umod_eq_zero_iff _ _).mp hb.alignDivides)
  rw [BitVec.toNat_umod] at hchunk hrest hlt
  have hnext : (nextOffset b payload offset).toNat = offset.toNat - offset.toNat % b.bufAlign.toNat + b.bufLen.toNat := by
    have hmod := Nat.mod_le offset.toNat b.bufAlign.toNat
    rw [nextOffset, BitVec.toNat_add, hchunk, Nat.mod_eq_of_lt (by omega)]
    omega
  rw [word_umod_eq_zero_iff, hnext]
  exact Nat.mod_eq_zero_of_dvd (Nat.dvd_add (Nat.dvd_sub_mod ..) hdiv)

theorem chunksOf_aligned {b : Bank} (hb : BankSound b) {payload : List Byte} (hlen : payload.length < 2 ^ 32) (offset : Word) :
    offset.toNat + payload.length ≤ 2 ^ 32 → ∀ m ch, (chunksOf b payload offset)[m + 1]? = some ch → ch.1 % b.bufAlign = 0 := by
  refine chunk_induction hb (P := fun payload offset => offset.toNat + payload.length ≤ 2 ^ 32 → ∀ m ch,
    (chunksOf b payload offset)[m + 1]? = some ch → ch.1 % b.bufAlign = 0) (by simp) ?_ hlen offset
  intro payload offset hne hlen ih hwrap m ch hch
  rw [chunksOf_cons hb hlen offset hne, List.getElem?_cons_succ] at hch
  have hmore : afterChunk b payload offset ≠ [] := fun h => by
    rw [h] at hch
    cases hch
  have hlt := length_afterChunk_lt hb hlen offset hne
  cases m with
  | zero =>
    rw [chunksOf_cons hb (by omega) _ hmore] at hch
    obtain rfl := Option.some.inj hch
    exact nextOffset_aligned hb hlen hmore hwrap
  | succ m =>
    refine ih ?_ m ch hch
    have hle := chunkLen_le hb offset (BitVec.ofNat 32 payload.length)
    rw [toNat_ofNat_length hlen] at hle
    rw [length_afterChunk, nextOffset, BitVec.toNat_add]
    exact (Nat.add_le_add_right (Nat.mod_le ..) _).trans (by omega)

/-- Settles O49, by induction over the chunks. -/
theorem chunkSequenceCoversThePayload : Obligations.ChunkSequenceCoversThePayload := by
  intro b payload offset hb hlen
  refine ⟨chunksOf_cover hb hlen offset, fun hne => by rw [chunksOf_cons hb hlen offset hne, List.head?_cons],
    fun m ch next hch hnext => ?_, fun ch hch => ?_, chunksOf_aligned hb hlen offset⟩
  · rw [chunksOf_next hb hlen offset m ch next hch hnext, nextOffset]
  · obtain ⟨hne, hlen'⟩ := chunksOf_nonempty hb hlen offset ch hch
    exact ⟨chunkLen_pos hb ch.1 (ofNat_length_ne_zero hne hlen'), chunkLen_fits hb ch.1 _⟩

end Sys2Proof.Machine
end

section
/-! The body of WRITE's loop (44_write.md R203 to R205): what `buildChunk` leaves in `STG`, and that it is the packet of the next
chunk. -/

namespace Sys2Proof.Machine

/-- A run of words reads as the list it holds. -/
theorem memory_words_eq {m : Memory} {k : Nat} {ws : List Word} (h : ∀ (i : Nat) (hi : i < ws.length), m.read (k + i) = ws[i]) :
    m.words k ws.length = ws := by
  induction ws generalizing k with
  | nil => rfl
  | cons w ws ih =>
    rw [List.length_cons, Memory.words]
    congr 1
    · exact h 0 (by simp)
    · refine ih fun i hi => ?_
      rw [show k + 1 + i = k + (i + 1) by omega]
      exact h (i + 1) (by simpa using hi)

section

variable {τ : Type}

/-- The bytes of the payload from `PAY_POS` on. -/
def payloadLeft (s : Block.State τ) : List Byte := s.args.payload.drop s.xfer.payPos.toNat

/-- The length of the next chunk, and its data words. -/
def builtLen (s : Block.State τ) : Word := s.bank.chunkLen s.xfer.curOffset s.xfer.remaining

def builtData (s : Block.State τ) : List Word := packWords (chunkBytes s (builtLen s)) (s.bank.chunkLane s.xfer.curOffset)

theorem length_chunkBytes_le (s : Block.State τ) (runLen : Word) : (chunkBytes s runLen).length ≤ runLen.toNat :=
  List.length_take_le ..

theorem length_chunkBytes_lt (s : Block.State τ) (runLen : Word) : (chunkBytes s runLen).length < 2 ^ 32 :=
  (length_chunkBytes_le s runLen).trans_lt runLen.isLt

theorem length_builtData_lt (s : Block.State τ) : (builtData s).length < 2 ^ 32 := by
  have hlen := length_chunkBytes_lt s (builtLen s)
  rw [builtData, length_packWords, packCount, dataWords]
  split <;> omega

/-- `STG` with the packet of the next chunk. -/
def builtStg (s : Block.State τ) : Memory :=
  (((s.stg.writeAll s.bank.stgWords 2 (builtData s)).write s.bank.stgWords 0 (flashWord0 s.cfg (builtLen s))).write
    s.bank.stgWords 1 s.xfer.curOffset).write s.bank.stgWords ((builtData s).length + 2) (checksumOf s.cfg.chksInit (builtData s))

/-- The body of the loop: `RUNLEN`, the packer's registers and `STG` are written, and a cycle begins. -/
theorem buildChunk_eq (s : Block.State τ) :
    buildChunk s = { s with
      pstate := .idle, tag := .flashBlock, phase := .send ((builtData s).length + 3)
      xfer := { s.xfer with runLen := builtLen s }, packer := (buildChunk s).packer, stg := builtStg s } := by
  have hcount : (BitVec.ofNat 32 (builtData s).length).toNat = (builtData s).length :=
    (BitVec.toNat_ofNat ..).trans (Nat.mod_eq_of_lt (length_builtData_lt s))
  simp only [buildChunk, packRun_eq _ _ _ _ (length_chunkBytes_lt s _), beginCycle, builtStg]
  rw [← builtLen, ← builtData, hcount]

theorem buildChunk_phase (s : Block.State τ) : (buildChunk s).phase = .send ((builtData s).length + 3) := by rw [buildChunk_eq]

theorem buildChunk_stg (s : Block.State τ) : (buildChunk s).stg = builtStg s := by rw [buildChunk_eq]

theorem buildChunk_xfer (s : Block.State τ) : (buildChunk s).xfer = { s.xfer with runLen := builtLen s } := rfl

theorem builtStg_wf {s : Block.State τ} (h : s.stg.wf = true) : (builtStg s).wf = true :=
  memory_write_wf _ _ _ (memory_write_wf _ _ _ (memory_write_wf _ _ _ (memory_writeAll_wf _ _ _ h)))

theorem builtStg_within {s : Block.State τ} (h : s.stg.within s.bank.stgWords = true) :
    (builtStg s).within s.bank.stgWords = true :=
  memory_write_within _ _ (memory_write_within _ _ (memory_write_within _ _ (memory_writeAll_within _ _ h)))

/-- A word of `STG`, after the packet of the next chunk has been written. -/
theorem builtStg_read {s : Block.State τ} (h : s.stg.wf = true) (j : Nat) :
    (builtStg s).read j =
      if j = (builtData s).length + 2 ∧ (builtData s).length + 2 < s.bank.stgWords then checksumOf s.cfg.chksInit (builtData s)
      else if j = 1 ∧ 1 < s.bank.stgWords then s.xfer.curOffset
      else if j = 0 ∧ 0 < s.bank.stgWords then flashWord0 s.cfg (builtLen s)
      else if 2 ≤ j ∧ j < s.bank.stgWords then ((builtData s)[j - 2]?).getD (s.stg.read j) else s.stg.read j := by
  have h2 := memory_writeAll_wf (builtData s) s.bank.stgWords 2 h
  have h0 := memory_write_wf s.bank.stgWords 0 (flashWord0 s.cfg (builtLen s)) h2
  have h1 := memory_write_wf s.bank.stgWords 1 s.xfer.curOffset h0
  rw [builtStg, memory_read_write h1, memory_read_write h0, memory_read_write h2, memory_read_writeAll _ h]

/-- A word beyond the packet, or beyond `STG`, stays (44_write.md R205, 10_state.md R41). -/
theorem builtStg_read_beyond {s : Block.State τ} (h : s.stg.wf = true) {j : Nat}
    (hj : s.bank.stgWords ≤ j ∨ (builtData s).length + 3 ≤ j) : (builtStg s).read j = s.stg.read j := by
  rw [builtStg_read h, if_neg (by omega), if_neg (by unfold Bank.stgWords at hj ⊢; omega),
    if_neg (by unfold Bank.stgWords at hj ⊢; omega)]
  split
  · rw [List.getElem?_eq_none (by omega), Option.getD_none]
  · rfl

/-- The words that are sent are the chunk's packet. -/
theorem builtStg_words {s : Block.State τ} (h : s.stg.wf = true) (hfit : (builtData s).length + 3 ≤ s.bank.stgWords) :
    (builtStg s).words 0 ((builtData s).length + 3) =
      flashPacket s.cfg (builtLen s) s.xfer.curOffset (builtData s) (checksumOf s.cfg.chksInit (builtData s)) := by
  have hlen : (flashPacket s.cfg (builtLen s) s.xfer.curOffset (builtData s)
      (checksumOf s.cfg.chksInit (builtData s))).length = (builtData s).length + 3 := by simp [flashPacket]
  rw [← hlen]
  refine memory_words_eq fun i hi => ?_
  rw [hlen] at hi
  rw [Nat.zero_add, builtStg_read h]
  match i with
  | 0 => rw [if_neg (by omega), if_neg (by omega), if_pos ⟨rfl, by omega⟩]; rfl
  | 1 => rw [if_neg (by omega), if_pos ⟨rfl, by omega⟩]; rfl
  | k + 2 =>
    by_cases hlast : k = (builtData s).length
    · rw [if_pos (by omega)]
      simp [flashPacket, hlast]
    · have hk : k < (builtData s).length := by omega
      rw [if_neg (by omega), if_neg (by omega), if_neg (by omega), if_pos (by omega), Nat.add_sub_cancel,
        List.getElem?_eq_getElem hk, Option.getD_some]
      simp [flashPacket, List.getElem_append_left hk]

/-! ### In a WRITE whose progress registers agree -/

theorem Progress.remaining_eq {s : Block.State τ} (h : Progress s.args s.xfer) :
    s.xfer.remaining = BitVec.ofNat 32 (payloadLeft s).length := by
  have hlen := h.length
  have hpos := h.position
  rw [← BitVec.toNat_inj, BitVec.toNat_ofNat, payloadLeft, List.length_drop]
  omega

theorem Progress.length_payloadLeft {s : Block.State τ} (h : Progress s.args s.xfer) : (payloadLeft s).length < 2 ^ 32 := by
  have hlen := h.length
  rw [payloadLeft, List.length_drop]
  omega

theorem Progress.payloadLeft_ne_nil {s : Block.State τ} (h : Progress s.args s.xfer) (hr : s.xfer.remaining ≠ 0) :
    payloadLeft s ≠ [] := fun hnil => hr (by rw [h.remaining_eq, hnil]; rfl)

theorem builtLen_eq {s : Block.State τ} (h : Progress s.args s.xfer) :
    builtLen s = s.bank.chunkLen s.xfer.curOffset (BitVec.ofNat 32 (payloadLeft s).length) := by
  rw [builtLen, h.remaining_eq]

theorem builtData_eq {s : Block.State τ} (h : Progress s.args s.xfer) :
    builtData s = chunkData s.bank (payloadLeft s) s.xfer.curOffset := by
  rw [builtData, chunkData, ← builtLen_eq h]
  rfl

/-- The packet that is built is the next chunk's, and fits (44_write.md R205, R207). -/
theorem buildChunk_words {s : Block.State τ} (h : s.stg.wf = true) (hb : BankSound s.bank) (hp : Progress s.args s.xfer)
    (hr : s.xfer.remaining ≠ 0) :
    (buildChunk s).stg.words 0 ((builtData s).length + 3) = chunkPacket s.cfg s.bank (payloadLeft s) s.xfer.curOffset ∧
      (builtData s).length + 3 ≤ s.bank.stgWords := by
  have hfit : (builtData s).length + 3 ≤ s.bank.stgWords := by
    have hle := length_chunkPacket_le hb (hp.payloadLeft_ne_nil hr) hp.length_payloadLeft s.xfer.curOffset s.cfg
    rwa [length_chunkPacket, ← builtData_eq hp] at hle
  rw [buildChunk_stg, builtStg_words h hfit, chunkPacket, ← builtLen_eq hp, ← builtData_eq hp]
  exact ⟨rfl, hfit⟩

end

/-- Settles O50: at the loop's head the tick is `buildChunk`, and the packet is the closed form's. -/
theorem chunkPacketIsOneLegalFlashBlock : Obligations.ChunkPacketIsOneLegalFlashBlock := by
  intro s hcfg hstg hb hp hphase hr
  obtain ⟨hwords, hfit⟩ := buildChunk_words hstg hb hp hr
  have hne := hp.payloadLeft_ne_nil hr
  have hlen := hp.length_payloadLeft
  have hrun := toNat_lo16_chunkLen hb s.xfer.curOffset (BitVec.ofNat 32 (payloadLeft s).length)
  refine ⟨buildChunk s, _, (TickTo.chunkNext hphase hr).tick, buildChunk_phase s, rfl, rfl, hfit, hwords, _, _, _,
    by rw [hwords]; exact decodeCommand_chunkPacket hb hne hlen _ hcfg, ?_, ?_, ?_, rfl⟩
  · rw [hrun]
    exact chunkLen_pos hb _ (ofNat_length_ne_zero hne hlen)
  · have := chunkLen_fits hb s.xfer.curOffset (BitVec.ofNat 32 (payloadLeft s).length)
    rw [hrun]
    omega
  · rw [hrun, buildChunk_xfer, builtLen_eq hp]

end Sys2Proof.Machine
end

section
/-! The sequencing registers in agreement (10_state.md R22): `PhaseOk` is `SeqOk`, which every tick keeps whatever the bank is, and
`WriteOk`, which every tick keeps on a bank that is all or nothing. -/

namespace Sys2Proof.Machine

variable {τ : Type} {s t : Block.State τ}

/-- Whose command cycle is in flight, by `OP` and `TAG` alone (10_state.md R36, R38). -/
def CycleOf (s : Block.State τ) : Prop :=
  (s.whole = false ∧ s.op = .none) ∨
  (s.whole = true ∧ s.op = .probe ∧ s.tag = .probe) ∨
  (s.whole = true ∧ s.op = .erase ∧ (s.tag = .eraseAll ∨ s.tag = .eraseBlock)) ∨
  (s.whole = true ∧ s.op = .write ∧ s.tag = .flashBlock)

/-- The sequencing registers agree with the position, as far as that does not speak of the bank or of a WRITE's progress. -/
def SeqOk (s : Block.State τ) : Prop :=
  match s.phase with
  | .idle => s.op = .none ∧ s.whole = false
  | .runCheck => s.whole = true ∧ (s.op = .erase ∨ s.op = .write) ∧ s.pstate = .idle
  | .drainPoll => ProbePart s ∧ (s.whole = true → s.pstate = .idle)
  | .drainTake => ProbePart s ∧ (s.whole = true → s.pstate = .idle)
  | .send _ => CycleOf s ∧ s.pstate = .idle
  | .sent => CycleOf s ∧ s.pstate = .cmdSent
  | .ackWait => CycleOf s ∧ s.pstate = .awaitingAck
  | .respRead => CycleOf s ∧ s.pstate = .awaitingAck
  | .respCheck => CycleOf s ∧ s.pstate = .responseReceived
  | .geomWait => ProbePart s ∧ s.gidx < 4 ∧ (s.whole = true → s.pstate = .done)
  | .geomRead => ProbePart s ∧ s.gidx < 4 ∧ (s.whole = true → s.pstate = .done)
  | .geomCheck => s.whole = true ∧ s.op = .probe ∧ s.pstate = .done ∧ s.gidx = 4
  | .chunk => s.whole = true ∧ s.op = .write ∧ (s.pstate = .idle ∨ s.pstate = .done)

/-- What the registers of ERASE and WRITE say inside a command cycle. -/
def CycleWriteOk (s : Block.State τ) : Prop :=
  (s.op = .erase → s.probed = true) ∧
  (s.op = .write → s.probed = true ∧ Progress s.args s.xfer ∧ ChunkSound s.bank s.xfer)

/-- The rest of the agreement: ERASE and WRITE are past their first gate, and WRITE's progress registers agree. -/
def WriteOk (s : Block.State τ) : Prop :=
  match s.phase with
  | .idle => True
  | .runCheck => s.probed = true ∧ s.args.payload.length < 2 ^ 32
  | .drainPoll => True
  | .drainTake => True
  | .send _ => CycleWriteOk s
  | .sent => CycleWriteOk s
  | .ackWait => CycleWriteOk s
  | .respRead => CycleWriteOk s
  | .respCheck => CycleWriteOk s
  | .geomWait => True
  | .geomRead => True
  | .geomCheck => True
  | .chunk => s.probed = true ∧ Progress s.args s.xfer

/-! ### By the phase -/

theorem seqOk_idle (h : s.phase = .idle) : SeqOk s ↔ s.op = .none ∧ s.whole = false := by rw [SeqOk, h]

theorem seqOk_runCheck (h : s.phase = .runCheck) :
    SeqOk s ↔ s.whole = true ∧ (s.op = .erase ∨ s.op = .write) ∧ s.pstate = .idle := by rw [SeqOk, h]

theorem seqOk_drain (h : s.phase = .drainPoll ∨ s.phase = .drainTake) :
    SeqOk s ↔ ProbePart s ∧ (s.whole = true → s.pstate = .idle) := by
  obtain h | h := h <;> rw [SeqOk, h]

theorem seqOk_send {n : Nat} (h : s.phase = .send n) : SeqOk s ↔ CycleOf s ∧ s.pstate = .idle := by rw [SeqOk, h]

theorem seqOk_sent (h : s.phase = .sent) : SeqOk s ↔ CycleOf s ∧ s.pstate = .cmdSent := by rw [SeqOk, h]

theorem seqOk_ack (h : s.phase = .ackWait ∨ s.phase = .respRead) : SeqOk s ↔ CycleOf s ∧ s.pstate = .awaitingAck := by
  obtain h | h := h <;> rw [SeqOk, h]

theorem seqOk_respCheck (h : s.phase = .respCheck) : SeqOk s ↔ CycleOf s ∧ s.pstate = .responseReceived := by rw [SeqOk, h]

theorem seqOk_geom (h : s.phase = .geomWait ∨ s.phase = .geomRead) :
    SeqOk s ↔ ProbePart s ∧ s.gidx < 4 ∧ (s.whole = true → s.pstate = .done) := by
  obtain h | h := h <;> rw [SeqOk, h]

theorem seqOk_geomCheck (h : s.phase = .geomCheck) :
    SeqOk s ↔ s.whole = true ∧ s.op = .probe ∧ s.pstate = .done ∧ s.gidx = 4 := by rw [SeqOk, h]

theorem seqOk_chunk (h : s.phase = .chunk) :
    SeqOk s ↔ s.whole = true ∧ s.op = .write ∧ (s.pstate = .idle ∨ s.pstate = .done) := by rw [SeqOk, h]

/-- A phase of the command cycle. -/
def Phase.inCycle : Phase → Bool
  | .send _ => true
  | .sent => true
  | .ackWait => true
  | .respRead => true
  | .respCheck => true
  | .idle => false
  | .runCheck => false
  | .drainPoll => false
  | .drainTake => false
  | .geomWait => false
  | .geomRead => false
  | .geomCheck => false
  | .chunk => false

theorem writeOk_runCheck (h : s.phase = .runCheck) : WriteOk s ↔ s.probed = true ∧ s.args.payload.length < 2 ^ 32 := by
  rw [WriteOk, h]

theorem writeOk_cycle (h : s.phase.inCycle = true) : WriteOk s ↔ CycleWriteOk s := by
  cases hp : s.phase <;> simp only [hp, Phase.inCycle, Bool.false_eq_true] at h <;> rw [WriteOk, hp]

theorem WriteOk.cycle (hw : WriteOk s) (h : s.phase.inCycle = true) : CycleWriteOk s := (writeOk_cycle h).mp hw

theorem writeOk_chunk (h : s.phase = .chunk) : WriteOk s ↔ s.probed = true ∧ Progress s.args s.xfer := by rw [WriteOk, h]

/-- The phases at which `WriteOk` says nothing. -/
theorem writeOk_elsewhere (hrun : s.phase ≠ .runCheck) (hcycle : s.phase.inCycle = false) (hchunk : s.phase ≠ .chunk) :
    WriteOk s := by
  unfold WriteOk
  cases hp : s.phase <;> simp_all [Phase.inCycle]

theorem cycleOwner_iff : CycleOwner s ↔ CycleOf s ∧ CycleWriteOk s := by
  unfold CycleOwner CycleOf CycleWriteOk
  cases hop : s.op <;> simp [and_assoc, and_comm]

theorem phaseOk_iff : PhaseOk s ↔ SeqOk s ∧ WriteOk s := by
  unfold PhaseOk SeqOk WriteOk
  cases s.phase <;> simp only [cycleOwner_iff, and_true] <;> tauto

/-! ### Every tick keeps the agreement -/

theorem seqOk_raiseError (c : Bool) (e : Block.ErrInfo τ) (s : Block.State τ) : SeqOk (raiseError c e s) :=
  (seqOk_idle (raiseError_phase c e s)).mpr ⟨rfl, rfl⟩

theorem seqOk_finishOk (s : Block.State τ) : SeqOk (finishOk s) := (seqOk_idle (finishOk_phase s)).mpr ⟨rfl, rfl⟩

theorem CycleOf.bare (h : CycleOf s) (hw : s.whole = false ∨ s.op = .none) : s.op = .none ∧ s.whole = false := by
  obtain ⟨hwhole, hop⟩ | ⟨hwhole, hop, -⟩ | ⟨hwhole, hop, -⟩ | ⟨hwhole, hop, -⟩ := h
  · exact ⟨hop, hwhole⟩
  all_goals simp [hwhole, hop] at hw

theorem ProbePart.whole (h : ProbePart s) (hw : s.whole = true) : s.op = .probe := by
  obtain ⟨-, hop⟩ | ⟨hwhole, -⟩ := h
  · exact hop
  · simp [hw] at hwhole

theorem ProbePart.bare (h : ProbePart s) (hw : s.whole = false) : s.op = .none := by
  obtain ⟨hwhole, -⟩ | ⟨-, hop⟩ := h
  · simp [hw] at hwhole
  · exact hop

theorem eraseCommand_tag (p : Params) (b : Bank) (first last : Word) :
    (eraseCommand p b first last).1 = .eraseAll ∨ (eraseCommand p b first last).1 = .eraseBlock := by
  unfold eraseCommand
  split
  · exact .inl rfl
  · exact .inr rfl

theorem gidx_succ_lt {k : BitVec 3} (h : k < 4) (h3 : k ≠ 3) : k + 1 < 4 := by
  revert h h3
  revert k
  decide

theorem TickTo.seqOk [Inhabited τ] (h : TickTo s t) (hs : SeqOk s) : SeqOk t := by
  cases h
  case runErase hp hr hg ho =>
    obtain ⟨hwhole, -, -⟩ := (seqOk_runCheck hp).mp hs
    exact (seqOk_send rfl).mpr ⟨.inr (.inr (.inl ⟨hwhole, ho, eraseCommand_tag ..⟩)), rfl⟩
  case runWrite hp hr hg ho =>
    obtain ⟨hwhole, -, hidle⟩ := (seqOk_runCheck hp).mp hs
    exact (seqOk_chunk rfl).mpr ⟨hwhole, ho, .inl hidle⟩
  case runBare hp hr hg ho =>
    obtain ⟨-, hop, -⟩ := (seqOk_runCheck hp).mp hs
    obtain ho | ho := ho <;> simp [ho] at hop
  case pollWord hp hr hg hx => exact (seqOk_drain (.inr rfl)).mpr ((seqOk_drain (.inl hp)).mp hs)
  case pollEnd hp hr hg hw =>
    obtain ⟨hpart, -⟩ := (seqOk_drain (.inl hp)).mp hs
    exact (seqOk_send rfl).mpr ⟨.inr (.inl ⟨hw, hpart.whole hw, rfl⟩), rfl⟩
  case pollEndBare hp hr hg hw =>
    obtain ⟨hpart, -⟩ := (seqOk_drain (.inl hp)).mp hs
    exact (seqOk_idle rfl).mpr ⟨hpart.bare hw, hw⟩
  case drainWord hp hr hg => exact (seqOk_drain (.inl rfl)).mpr ((seqOk_drain (.inr hp)).mp hs)
  case sendOk hp hr hg => exact (seqOk_sent rfl).mpr ⟨((seqOk_send hp).mp hs).1, rfl⟩
  case handshake hp => exact (seqOk_ack (.inl rfl)).mpr ⟨((seqOk_sent hp).mp hs).1, rfl⟩
  case ack hp hr hg => exact (seqOk_ack (.inr rfl)).mpr ((seqOk_ack (.inl hp)).mp hs)
  case response hp hr hg => exact (seqOk_respCheck rfl).mpr ⟨((seqOk_ack (.inr hp)).mp hs).1, rfl⟩
  case doneBare hp hd hw => exact (seqOk_idle rfl).mpr (((seqOk_respCheck hp).mp hs).1.bare hw)
  case doneProbe hp hd hw ho => exact (seqOk_geom (.inl rfl)).mpr ⟨.inl ⟨hw, ho⟩, (by decide : (0 : BitVec 3) < 4), fun _ => rfl⟩
  case doneWrite hp hd hw ho => exact (seqOk_chunk rfl).mpr ⟨hw, ho, .inr rfl⟩
  case geomAck hp hr hg => exact (seqOk_geom (.inr rfl)).mpr ((seqOk_geom (.inl hp)).mp hs)
  case geomKeep hp hr hg ht => exact (seqOk_geom (.inl hp)).mpr ((seqOk_geom (.inl hp)).mp hs)
  case geomWord hp hr hg hi =>
    obtain ⟨hpart, hlt, hdone⟩ := (seqOk_geom (.inr hp)).mp hs
    exact (seqOk_geom (.inl rfl)).mpr ⟨hpart, gidx_succ_lt hlt hi, hdone⟩
  case geomLast hp hr hg hi hw =>
    obtain ⟨hpart, -, hdone⟩ := (seqOk_geom (.inr hp)).mp hs
    exact (seqOk_geomCheck rfl).mpr ⟨hw, hpart.whole hw, hdone hw, rfl⟩
  case geomLastBare hp hr hg hi hw =>
    exact (seqOk_idle rfl).mpr ⟨((seqOk_geom (.inr hp)).mp hs).1.bare hw, hw⟩
  case chunkNext hp hn =>
    obtain ⟨hwhole, hop, -⟩ := (seqOk_chunk hp).mp hs
    exact (seqOk_send (buildChunk_phase s)).mpr ⟨.inr (.inr (.inr ⟨hwhole, hop, rfl⟩)), rfl⟩
  case doneErase | geomAccepted | chunkNone => exact seqOk_finishOk _
  all_goals exact seqOk_raiseError _ _ _

/-! ### WRITE's progress -/

theorem writeOk_of_idle (h : s.phase = .idle) : WriteOk s :=
  writeOk_elsewhere (by simp [h]) (by rw [h]; rfl) (by simp [h])

theorem progress_startWrite {a : Args} (h : a.payload.length < 2 ^ 32) (runLen : Word) :
    Progress a ⟨a.offset, BitVec.ofNat 32 a.payload.length, runLen, 0⟩ where
  length := h
  position := by
    rw [BitVec.toNat_ofNat, Nat.mod_eq_of_lt h]
    exact Nat.zero_add _
  offset := (BitVec.add_zero ..).symm

/-- An acknowledged chunk is behind (44_write.md R208). -/
theorem Progress.advance {a : Args} {b : Bank} {x : Transfer} (h : Progress a x) (hc : ChunkSound b x) :
    Progress a ⟨x.curOffset + x.runLen, x.remaining - x.runLen, x.runLen, x.payPos + x.runLen⟩ := by
  have hlen := h.length
  have hpos := h.position
  have hrem : x.runLen.toNat ≤ x.remaining.toNat := hc.remains
  refine ⟨hlen, ?_, ?_⟩
  · rw [BitVec.toNat_add, BitVec.toNat_sub_of_le hc.remains, Nat.mod_eq_of_lt (by omega)]
    omega
  · rw [h.offset, BitVec.add_assoc]

theorem chunkSound_build {b : Bank} (hb : BankSound b) {x : Transfer} (hr : x.remaining ≠ 0) :
    ChunkSound b { x with runLen := b.chunkLen x.curOffset x.remaining } where
  nonempty := (word_ne_zero_iff _).mpr (Nat.one_le_iff_ne_zero.mp (chunkLen_pos hb x.curOffset hr))
  remains := chunkLen_le hb x.curOffset x.remaining
  fits := chunkLen_fits hb x.curOffset x.remaining

theorem TickTo.writeOk [Inhabited τ] (h : TickTo s t) (hb : BankOk s.bank) (hs : SeqOk s) (hw : WriteOk s) : WriteOk t := by
  cases h
  case runErase hp hr hg ho =>
    refine (writeOk_cycle rfl).mpr ⟨fun _ => ((writeOk_runCheck hp).mp hw).1, fun hop => ?_⟩
    have hop : s.op = .write := hop
    simp [ho] at hop
  case runWrite hp hr hg ho =>
    obtain ⟨hprobed, hlen⟩ := (writeOk_runCheck hp).mp hw
    exact (writeOk_chunk rfl).mpr ⟨hprobed, progress_startWrite hlen _⟩
  case pollEnd hp hr hg hwhole =>
    have hop : s.op = .probe := ((seqOk_drain (.inl hp)).mp hs).1.whole hwhole
    exact (writeOk_cycle rfl).mpr ⟨fun h => by simp [hop] at h, fun h => by simp [hop] at h⟩
  case sendOk hp hr hg => exact (writeOk_cycle rfl).mpr (hw.cycle (by rw [hp]; rfl))
  case handshake hp => exact (writeOk_cycle rfl).mpr (hw.cycle (by rw [hp]; rfl))
  case ack hp hr hg => exact (writeOk_cycle rfl).mpr (hw.cycle (by rw [hp]; rfl))
  case response hp hr hg => exact (writeOk_cycle rfl).mpr (hw.cycle (by rw [hp]; rfl))
  case doneWrite hp hd hwhole ho =>
    obtain ⟨hprobed, hprogress, hchunk⟩ := (hw.cycle (by rw [hp]; rfl)).2 ho
    exact (writeOk_chunk rfl).mpr ⟨hprobed, hprogress.advance hchunk⟩
  case chunkNext hp hn =>
    obtain ⟨-, hop, -⟩ := (seqOk_chunk hp).mp hs
    obtain ⟨hprobed, hprogress⟩ := (writeOk_chunk hp).mp hw
    refine (writeOk_cycle (by rw [buildChunk_phase]; rfl)).mpr ⟨fun _ => hprobed, fun _ => ⟨hprobed, ?_, ?_⟩⟩
    · exact ⟨hprogress.length, hprogress.position, hprogress.offset⟩
    · exact chunkSound_build (hb.sound_of_probed hprobed) hn
  case geomKeep hp hr hg ht => exact writeOk_elsewhere (by simp [hp]) (by simp [hp, Phase.inCycle]) (by simp [hp])
  all_goals exact writeOk_elsewhere (by simp) (by simp [Phase.inCycle]) (by simp)

theorem TickTo.phaseOk [Inhabited τ] (h : TickTo s t) (hb : BankOk s.bank) (hs : PhaseOk s) : PhaseOk t := by
  obtain ⟨hseq, hwrite⟩ := phaseOk_iff.mp hs
  exact phaseOk_iff.mpr ⟨h.seqOk hseq, h.writeOk hb hseq hwrite⟩

/-! ### The transitions of `PSTATE` -/

/-- Settles O24, tick by tick: what `PSTATE` is before a tick is what the position says. -/
theorem tickFollowsTransitionTable : Obligations.TickFollowsTransitionTable := by
  intro s t hs ht
  have hs := (phaseOk_iff.mp hs).1
  cases tick_to ht
  case sendOk hp hr hg => exact .inr (by simp [((seqOk_send hp).mp hs).2, legalTransition])
  case sendFail hp hr hg => exact .inr (by simp [((seqOk_send hp).mp hs).2, legalTransition])
  case handshake hp => exact .inr (by simp [((seqOk_sent hp).mp hs).2, legalTransition])
  case noAck hp hr hg => exact .inr (by simp [((seqOk_ack (.inl hp)).mp hs).2, legalTransition])
  case response hp hr hg => exact .inr (by simp [((seqOk_ack (.inr hp)).mp hs).2, legalTransition])
  case responseFail hp hr hg => exact .inr (by simp [((seqOk_ack (.inr hp)).mp hs).2, legalTransition])
  case doneBare hp hd hw => exact .inr (by simp [((seqOk_respCheck hp).mp hs).2, legalTransition])
  case doneProbe hp hd hw ho => exact .inr (by simp [((seqOk_respCheck hp).mp hs).2, legalTransition])
  case doneErase hp hd hw ho => exact .inr (by simp [((seqOk_respCheck hp).mp hs).2, legalTransition])
  case doneWrite hp hd hw ho => exact .inr (by simp [((seqOk_respCheck hp).mp hs).2, legalTransition])
  case notDone hp hd => exact .inr (by simp [((seqOk_respCheck hp).mp hs).2, legalTransition])
  case runErase hp hr hg ho =>
    obtain ⟨-, -, hidle⟩ := (seqOk_runCheck hp).mp hs
    exact .inl (by simp [hidle])
  case pollEnd hp hr hg hw => exact .inl (by simp [((seqOk_drain (.inl hp)).mp hs).2 hw])
  case chunkNext hp hn =>
    obtain ⟨-, hop, hidle | hdone⟩ := (seqOk_chunk hp).mp hs
    · exact .inl hidle.symm
    · refine .inr ⟨?_, fun _ => ⟨hop, hp⟩⟩
      rw [hdone]
      rfl
  all_goals exact .inl rfl

end Sys2Proof.Machine
end

section
/-! The machine's invariant, kept by every tick, by every start of an instruction, and so by every step (10_state.md R22, R32, R33,
R41, R44; 30_encoding.md R108). -/

namespace Sys2Proof.Machine

variable {s t : State}

/-! ### The staging buffer -/

theorem TickTo.staging (h : TickTo s t) (hs : s.stg.wf = true) : t.stg.wf = true := by
  have hraise : ∀ (c : Bool) e (u : State), u.stg = s.stg → (raiseError c e u).stg.wf = true := by
    intro c e u hu
    rw [raiseError_stg, hu]
    split
    · exact memory_fit_wf _ hs
    · exact hs
  cases h
  case runErase | pollEnd => exact memory_writeAll_wf _ _ _ hs
  case chunkNext => exact buildChunk_stg s ▸ builtStg_wf hs
  case geomAccepted => exact memory_fit_wf _ hs
  case runDown | pollOver | drainFail | sendFail | noAck | responseFail | notDone | geomTimeout | geomFail | geomRejected =>
    exact hraise _ _ _ rfl
  all_goals exact hs

theorem TickTo.stagingSize (h : TickTo s t) (hs : s.stg.within s.bank.stgWords = true) : t.stg.within t.bank.stgWords = true := by
  have hraise : ∀ (c : Bool) e (u : State), u.stg = s.stg → u.bank = s.bank →
      (raiseError c e u).stg.within (raiseError c e u).bank.stgWords = true := by
    intro c e u hu hb
    rw [raiseError_stg, raiseError_bank, hu, hb]
    split
    · exact memory_fit_within ..
    · exact hs
  cases h
  case runErase | pollEnd => exact memory_writeAll_within _ _ hs
  case chunkNext =>
    have hwithin := builtStg_within hs
    rwa [← buildChunk_stg] at hwithin
  case geomAccepted => exact memory_fit_within ..
  case runDown | pollOver | drainFail | sendFail | noAck | responseFail | notDone | geomTimeout | geomFail | geomRejected =>
    exact hraise _ _ _ rfl rfl
  all_goals exact hs

/-! ### The bank and the error kind -/

/-- The bank is written at the end of an operation only. -/
theorem TickTo.bank_kept (h : TickTo s t) : t.bank = s.bank ∨ t.phase = .idle := by
  cases h
  case runDown | pollOver | drainFail | sendFail | noAck | responseFail | notDone | geomTimeout | geomFail | geomRejected |
      geomAccepted =>
    exact .inr rfl
  all_goals exact .inl rfl

theorem bankOk_raiseError (c : Bool) (e : ErrInfo) {u : State} (hb : BankOk u.bank) : BankOk (raiseError c e u).bank := by
  rw [raiseError_bank]
  split
  · exact .inl rfl
  · exact hb

theorem TickTo.bankOk (h : TickTo s t) (hb : BankOk s.bank) : BankOk t.bank := by
  cases h
  case geomAccepted hp hv => exact .inr (bankSound_decode hv)
  case runDown | pollOver | drainFail | sendFail | noAck | responseFail | notDone | geomTimeout | geomFail | geomRejected =>
    exact bankOk_raiseError _ _ hb
  all_goals exact hb

/-- A tick keeps the operation and the error registers, or ends the operation. -/
theorem TickTo.op_kept (h : TickTo s t) : (t.op = s.op ∧ t.err = s.err) ∨ t.op = .none := by
  cases h
  case runDown | pollOver | drainFail | sendFail | noAck | responseFail | notDone | geomTimeout | geomFail | geomRejected |
      geomAccepted | doneErase | chunkNone =>
    exact .inr rfl
  all_goals exact .inl ⟨rfl, rfl⟩

/-! ### The packet about to be sent -/

theorem packetOk_of_not_send (h : ∀ n, s.phase ≠ .send n) : PacketOk s := fun n hn => absurd hn (h n)

theorem packetOk_startCommand {tag : Tag} {packet : List Word} (hs : s.stg.wf = true)
    (hp : isPacketOf s.cfg s.bank.bufLen s.bank.bufAlign tag packet = true) : PacketOk (startCommand tag packet s) := by
  intro n hn
  obtain rfl : packet.length = n := Phase.send.inj hn
  have hfits := isPacketOf_fits (b := s.bank) hp
  refine ⟨hfits, ?_⟩
  rw [startCommand_stg, memory_words_writeAll packet hs (by rwa [Nat.zero_add])]
  exact hp

theorem TickTo.packetOk (h : TickTo s t) (hi : Inv s) : PacketOk t := by
  obtain ⟨hseq, hwrite⟩ := phaseOk_iff.mp hi.sequencing
  cases h
  case runErase => exact packetOk_startCommand hi.staging (isPacketOf_eraseCommand hi.params ..)
  case pollEnd => exact packetOk_startCommand hi.staging (isPacketOf_commandOf (i := .wireProbe) hi.params rfl rfl)
  case chunkNext hp hn =>
    obtain ⟨hprobed, hprogress⟩ := (writeOk_chunk hp).mp hwrite
    have hb := hi.bank.sound_of_probed hprobed
    obtain ⟨hwords, hfit⟩ := buildChunk_words hi.staging hb hprogress hn
    intro n hn'
    obtain rfl : (builtData s).length + 3 = n := Phase.send.inj ((buildChunk_phase s).symm.trans hn')
    refine ⟨hfit, ?_⟩
    rw [hwords]
    exact isPacketOf_chunkPacket hb (hprogress.payloadLeft_ne_nil hn) hprogress.length_payloadLeft _ hi.params
  case geomKeep hp hr hg ht => exact packetOk_of_not_send fun n hn => by simp [hp] at hn
  all_goals exact packetOk_of_not_send nofun

/-! ### The invariant -/

theorem TickTo.inv (h : TickTo s t) (hi : Inv s) : Inv t where
  params := h.cfg ▸ hi.params
  staging := h.staging hi.staging
  stagingSize := h.stagingSize hi.stagingSize
  packet := h.packetOk hi
  bank := h.bankOk hi.bank
  sequencing := h.phaseOk hi.bank hi.sequencing
  noStaleError := by
    intro hop
    obtain ⟨hop', herr⟩ | hnone := h.op_kept
    · rw [herr]
      exact hi.noStaleError (hop' ▸ hop)
    · exact absurd hnone hop

theorem inv_runOn (hi : Inv s) : Inv (runOn s) := runOn_keeps (P := Inv) (fun _ _ hs ht => (tick_to ht).inv hs) hi

/-- An error ends the operation and leaves an idle block. -/
theorem inv_raiseError {c : Bool} {e : ErrInfo} (hp : s.cfg.wf) (hstg : s.stg.wf = true)
    (hsize : s.stg.within s.bank.stgWords = true) (hb : BankOk s.bank) : Inv (raiseError c e s) where
  params := hp
  staging := by
    rw [raiseError_stg]
    split
    · exact memory_fit_wf _ hstg
    · exact hstg
  stagingSize := by
    rw [raiseError_stg, raiseError_bank]
    split
    · exact memory_fit_within ..
    · exact hsize
  packet := packetOk_of_not_send nofun
  bank := bankOk_raiseError _ _ hb
  sequencing := phaseOk_iff.mpr ⟨seqOk_raiseError .., writeOk_of_idle rfl⟩
  noStaleError := fun h => absurd rfl h

/-- An instruction starts with its sequencing registers in agreement. -/
theorem Launched.seqOk {i : Instr} {u : State} (h : Launched s i u) (hp : s.phase = .idle) (hop : s.op = .none) : SeqOk u := by
  cases h
  case command => exact (seqOk_send rfl).mpr ⟨.inl ⟨rfl, hop⟩, rfl⟩
  case pack payload o => exact (seqOk_idle (s := applyPack payload o s.bare) hp).mpr ⟨hop, rfl⟩
  case drain => exact (seqOk_drain (.inl rfl)).mpr ⟨.inr ⟨rfl, hop⟩, nofun⟩
  case geomRead => exact (seqOk_geom (.inl rfl)).mpr ⟨.inr ⟨rfl, hop⟩, (by decide : (0 : BitVec 3) < 4), nofun⟩
  case probe => exact (seqOk_drain (.inl rfl)).mpr ⟨.inl ⟨rfl, rfl⟩, fun _ => rfl⟩
  case erase => exact (seqOk_runCheck rfl).mpr ⟨rfl, .inl rfl, rfl⟩
  case write => exact (seqOk_runCheck rfl).mpr ⟨rfl, .inr rfl, rfl⟩
  case eraseUnprobed | writeUnprobed => exact seqOk_raiseError _ _ _

theorem Launched.writeOk {i : Instr} {u : State} (h : Launched s i u) (hp : s.phase = .idle) (hop : s.op = .none) :
    WriteOk u := by
  cases h
  case command =>
    exact (writeOk_cycle rfl).mpr ⟨fun h => by simp [hop] at h, fun h => by simp [hop] at h⟩
  case pack => exact writeOk_of_idle hp
  case drain | probe => exact writeOk_elsewhere nofun rfl nofun
  case geomRead => exact writeOk_elsewhere nofun rfl nofun
  case erase first last hb => exact (writeOk_runCheck rfl).mpr ⟨hb, Nat.two_pow_pos 32⟩
  case write offset payload hpayload hb => exact (writeOk_runCheck rfl).mpr ⟨hb, length_of_payload_fits hpayload⟩
  case eraseUnprobed | writeUnprobed => exact writeOk_of_idle rfl

theorem Launched.inv {i : Instr} {u : State} (h : Launched s i u) (hi : Inv s) (hp : s.phase = .idle) (hop : s.op = .none)
    (hwf : i.wf s.cfg s.bank.bufLen s.bank.bufAlign = true) : Inv u := by
  have hphase : PhaseOk u := phaseOk_iff.mpr ⟨h.seqOk hp hop, h.writeOk hp hop⟩
  cases h
  case command hc _ =>
    exact ⟨hi.params, memory_writeAll_wf _ _ _ hi.staging, memory_writeAll_within _ _ hi.stagingSize,
      packetOk_startCommand hi.staging (isPacketOf_commandOf hi.params hc hwf), hi.bank, hphase, hi.noStaleError⟩
  case pack payload o =>
    have hstg : (applyPack payload o s.bare).stg = s.stg.writeAll s.bank.stgWords 2 (packWords payload o) := by
      rw [applyPack, packRun_eq _ _ _ o (by simpa [Instr.wf] using hwf)]
    exact ⟨hi.params, hstg ▸ memory_writeAll_wf _ _ _ hi.staging, hstg ▸ memory_writeAll_within _ _ hi.stagingSize,
      packetOk_of_not_send fun n hn => by simp [show s.phase = .send n from hn] at hp, hi.bank, hphase, hi.noStaleError⟩
  case drain =>
    exact ⟨hi.params, hi.staging, hi.stagingSize, packetOk_of_not_send nofun, hi.bank, hphase, hi.noStaleError⟩
  case geomRead =>
    exact ⟨hi.params, hi.staging, hi.stagingSize, packetOk_of_not_send nofun, hi.bank, hphase, hi.noStaleError⟩
  case probe =>
    exact ⟨hi.params, hi.staging, hi.stagingSize, packetOk_of_not_send nofun, hi.bank, hphase, fun _ => rfl⟩
  case erase =>
    exact ⟨hi.params, hi.staging, hi.stagingSize, packetOk_of_not_send nofun, hi.bank, hphase, fun _ => rfl⟩
  case write =>
    exact ⟨hi.params, hi.staging, hi.stagingSize, packetOk_of_not_send nofun, hi.bank, hphase, fun _ => rfl⟩
  case eraseUnprobed | writeUnprobed => exact inv_raiseError hi.params hi.staging hi.stagingSize hi.bank

/-- A submission taken from the caller's list changes nothing that the invariant speaks of. -/
theorem inv_takeCall {rest : List Call} (hi : Inv s) : Inv { s with calls := rest } :=
  ⟨hi.params, hi.staging, hi.stagingSize, hi.packet, hi.bank, hi.sequencing, hi.noStaleError⟩

/-- Settles O3: by the cases of a step, with `TickTo.inv` for what runs and `Launched.inv` for what starts. -/
theorem stepKeepsInvariant : Obligations.StepKeepsInvariant := by
  intro s t hi ht
  cases hreset : s.resetLine
  · cases step_to hreset ht
    case inFlight => exact inv_runOn hi
    case wait => exact hi
    case unread => exact inv_takeCall hi
    case start hp hop hc hf hwf hl => exact inv_runOn (hl.inv (inv_takeCall hi) hp hop hwf)
  · rw [step_reset hreset] at ht
    cases ht
    exact inv_of_idle_unprobed hi.params rfl rfl rfl rfl rfl

end Sys2Proof.Machine
end

section
/-! The order of interface events (20_memory.md R82, 41_protocol_cycle.md R158): each tick's event is one that the port allows, and
leaves the port as the position says. -/

namespace Sys2Proof.Machine

variable {s t : State}

theorem portAfter_none (p : Params) (es : List Event) : portAfter p none es = none := by cases es <;> rfl

theorem portAfter_append (p : Params) (q : Option PortState) (es fs : List Event) :
    portAfter p q (es ++ fs) = portAfter p (portAfter p q es) fs := by
  induction es generalizing q with
  | nil =>
    cases q with
    | none => rw [List.nil_append, portAfter_none, portAfter_none, portAfter_none]
    | some q => rfl
  | cons e es ih =>
    cases q with
    | none => rw [portAfter_none, portAfter_none, portAfter_none]
    | some q => exact ih (portNext p q e)

/-- The events after `s`, in the order of the command cycle from the port state `q` on, up to `t`. -/
def EventsInOrder (s : State) (q : PortState) (t : State) : Prop :=
  ∃ new q', t.trace = s.trace ++ new ∧ portAfter s.cfg (some q) new = some q' ∧
    (q' = t.port ∨ (q' = .free ∧ t.phase = .idle))

theorem eventsInOrder_silent {q : PortState} (htrace : t.trace = s.trace) (hq : q = t.port ∨ (q = .free ∧ t.phase = .idle)) :
    EventsInOrder s q t :=
  ⟨[], q, by rw [htrace, List.append_nil], rfl, hq⟩

theorem eventsInOrder_event {q q' : PortState} {e : Event} (htrace : t.trace = s.trace ++ [e])
    (hnext : portNext s.cfg q e = some q') (hq : q' = t.port ∨ (q' = .free ∧ t.phase = .idle)) : EventsInOrder s q t :=
  ⟨[e], q', htrace, by rw [portAfter, hnext]; rfl, hq⟩

theorem portNext_free_hs (p : Params) (b : Bool) :
    portNext p .free (.hs p.geomTimeoutMs b : Event) = some (if b then .free else .closed) := if_pos rfl

theorem portNext_outstanding_hs (p : Params) (b : Bool) :
    portNext p .outstanding (.hs ackTimeoutMs b : Event) = some (if b then .acked else .closed) := by simp [portNext]

theorem port_of_phase {p : Phase} (hp : s.phase = p) (hc : p ≠ .respCheck) : s.port = Block.State.port { s with phase := p } := by
  subst hp
  rfl

theorem port_respCheck (hp : s.phase = .respCheck) : s.port = if s.resp = s.cfg.rspDone then .free else .closed := by
  rw [Block.State.port, hp]

theorem TickTo.eventsInOrder (h : TickTo s t) : EventsInOrder s s.port t := by
  cases h
  case runErase hp hr hg ho =>
    rw [port_of_phase hp nofun]
    exact eventsInOrder_event (t := startCommand ..) rfl rfl (.inl rfl)
  case runWrite hp hr hg ho =>
    rw [port_of_phase hp nofun]
    exact eventsInOrder_event (t := startWrite _) rfl rfl (.inl rfl)
  case pollEnd hp hr hg hw =>
    rw [port_of_phase hp nofun]
    exact eventsInOrder_event (t := startCommand ..) rfl rfl (.inl rfl)
  case runBare hp hr hg ho | pollEndBare hp hr hg hw | geomLastBare hp hr hg hi hw =>
    rw [port_of_phase hp nofun]
    exact eventsInOrder_event rfl rfl (.inr ⟨rfl, rfl⟩)
  case pollOver hp hr hg hx =>
    rw [port_of_phase hp nofun]
    exact eventsInOrder_event (t := raiseError ..) rfl rfl (.inr ⟨rfl, rfl⟩)
  case runDown hp hr hg | drainFail hp hr hg | sendFail hp hr hg | responseFail hp hr hg | geomFail hp hr hg =>
    rw [port_of_phase hp nofun]
    exact eventsInOrder_event (t := raiseError ..) rfl rfl (.inl rfl)
  case noAck hp hr hg =>
    rw [port_of_phase hp nofun]
    exact eventsInOrder_event (t := raiseError ..) rfl (portNext_outstanding_hs ..) (.inl rfl)
  case geomTimeout hp hr hg ht =>
    rw [port_of_phase hp nofun]
    exact eventsInOrder_event (t := raiseError ..) rfl (portNext_free_hs ..) (.inl rfl)
  case ack hp hr hg =>
    rw [port_of_phase hp nofun]
    exact eventsInOrder_event rfl (portNext_outstanding_hs ..) (.inl rfl)
  case geomAck hp hr hg =>
    rw [port_of_phase hp nofun]
    exact eventsInOrder_event rfl (portNext_free_hs ..) (.inl rfl)
  case pollWord hp hr hg hx | drainWord hp hr hg | sendOk hp hr hg | response hp hr hg | geomWord hp hr hg hi |
      geomLast hp hr hg hi hw =>
    rw [port_of_phase hp nofun]
    exact eventsInOrder_event rfl rfl (.inl rfl)
  case handshake hp =>
    rw [port_of_phase hp nofun]
    exact eventsInOrder_silent rfl (.inl rfl)
  case geomKeep hp hr hg ht => exact eventsInOrder_silent rfl (.inl rfl)
  case doneBare hp hd hw =>
    rw [port_respCheck hp, if_pos hd]
    exact eventsInOrder_silent rfl (.inr ⟨rfl, rfl⟩)
  case doneProbe hp hd hw ho =>
    rw [port_respCheck hp, if_pos hd]
    exact eventsInOrder_silent rfl (.inl rfl)
  case doneErase hp hd hw ho =>
    rw [port_respCheck hp, if_pos hd]
    exact eventsInOrder_silent rfl (.inr ⟨rfl, rfl⟩)
  case doneWrite hp hd hw ho =>
    rw [port_respCheck hp, if_pos hd]
    exact eventsInOrder_silent rfl (.inl rfl)
  case notDone hp hd =>
    rw [port_respCheck hp, if_neg hd]
    exact eventsInOrder_silent rfl (.inl rfl)
  case geomAccepted hp hv | geomRejected hp hv | chunkNone hp hn =>
    rw [port_of_phase hp nofun]
    exact eventsInOrder_silent rfl (.inr ⟨rfl, rfl⟩)
  case chunkNext hp hn =>
    rw [port_of_phase hp nofun]
    exact eventsInOrder_silent rfl (.inl (by rw [Block.State.port, Block.State.port, buildChunk_phase]))

/-- A run's events are in order, from a port state that its start agrees with. -/
theorem eventsInOrder_runOn {q : PortState} {u : State} (hcfg : u.cfg = s.cfg) (htrace : u.trace = s.trace)
    (hq : q = u.port ∨ (q = .free ∧ u.phase = .idle)) : EventsInOrder s q (runOn u) := by
  refine (runOn_keeps (P := fun t => t.cfg = s.cfg ∧ EventsInOrder s q t) ?_ ⟨hcfg, eventsInOrder_silent htrace hq⟩).2
  rintro v t ⟨hcfg, new, q', htrace, hport, hq'⟩ ht
  have hbusy : v.phase ≠ .idle := fun hp => by simp [tick_idle hp] at ht
  obtain rfl : q' = v.port := hq'.resolve_right fun h => hbusy h.2
  obtain ⟨new', q'', htrace', hport', hq''⟩ := (tick_to ht).eventsInOrder
  refine ⟨(tick_to ht).cfg.trans hcfg, new ++ new', q'', by rw [htrace', htrace, List.append_assoc], ?_, hq''⟩
  rw [portAfter_append, hport, ← hcfg]
  exact hport'

/-! ### The packets sent -/

/-- Every packet sent since `s` is one of the block's, on the bank of `s`. -/
def SentLegal (s t : State) : Prop :=
  ∃ new, t.trace = s.trace ++ new ∧ ∀ ws failed, .send ws failed ∈ new →
    ∃ tag, isPacketOf s.cfg s.bank.bufLen s.bank.bufAlign tag ws = true

/-- The event of a tick, if it is a send, sends the words that the position says. -/
theorem TickTo.sent_words (h : TickTo s t) {ws : List Word} {failed : Option (TransportErr TransportValue)}
    (ht : t.trace = s.trace ++ [.send ws failed]) : ∃ n, s.phase = .send n ∧ ws = s.stg.words 0 n := by
  have hcancel : ∀ {e : Event}, s.trace ++ [e] = s.trace ++ [.send ws failed] → e = .send ws failed := fun h =>
    List.singleton_inj.mp (List.append_cancel_left h)
  have hsilent : s.trace ≠ s.trace ++ [.send ws failed] := by simp
  cases h
  case sendOk hp hr hg =>
    cases hcancel ht
    exact ⟨_, hp, rfl⟩
  case sendFail hp hr hg =>
    cases hcancel ht
    exact ⟨_, hp, rfl⟩
  case handshake | doneBare | doneProbe | doneErase | doneWrite | notDone | geomKeep | geomAccepted | geomRejected | chunkNone |
      chunkNext =>
    exact absurd ht hsilent
  all_goals cases hcancel ht

theorem sentLegal_runOn {u : State} (hi : Inv u) (hcfg : u.cfg = s.cfg) (hbank : u.bank = s.bank) (htrace : u.trace = s.trace) :
    SentLegal s (runOn u) := by
  refine (runOn_keeps (P := fun t => Inv t ∧ t.cfg = s.cfg ∧ (t.phase ≠ .idle → t.bank = s.bank) ∧ SentLegal s t) ?_
    ⟨hi, hcfg, fun _ => hbank, [], by rw [htrace, List.append_nil], nofun⟩).2.2.2
  rintro v t ⟨hi, hcfg, hbank, new, htrace, hlegal⟩ ht
  have hbusy : v.phase ≠ .idle := fun hp => by simp [tick_idle hp] at ht
  have hto := tick_to ht
  refine ⟨hto.inv hi, hto.cfg.trans hcfg, fun hp => ?_, ?_⟩
  · rw [hto.bank_kept.resolve_right hp, hbank hbusy]
  · obtain htrace' | ⟨e, htrace'⟩ := hto.trace
    · exact ⟨new, htrace'.trans htrace, hlegal⟩
    · refine ⟨new ++ [e], by rw [htrace', htrace, List.append_assoc], fun ws failed hmem => ?_⟩
      obtain hmem | hmem := List.mem_append.mp hmem
      · exact hlegal ws failed hmem
      · obtain rfl := List.mem_singleton.mp hmem
        obtain ⟨n, hp, rfl⟩ := hto.sent_words htrace'
        rw [← hcfg, ← hbank hbusy]
        exact ⟨_, (hi.packet n hp).2⟩

theorem sentLegal_silent (htrace : t.trace = s.trace) : SentLegal s t := ⟨[], by rw [htrace, List.append_nil], nofun⟩

/-! ### The step -/

theorem Launched.trace {i : Instr} {u : State} (h : Launched s i u) : u.trace = s.trace := by cases h <;> rfl

/-- The bank is as it was when an instruction starts. -/
theorem Launched.bank {i : Instr} {u : State} (h : Launched s i u) : u.bank = s.bank := by
  cases h
  case eraseUnprobed | writeUnprobed =>
    rw [raiseError_bank]
    exact if_neg (by simp)
  all_goals rfl

/-- An instruction starts with nothing outstanding, or it has ended. -/
theorem Launched.port {i : Instr} {u : State} (h : Launched s i u) (hp : s.phase = .idle) :
    .free = u.port ∨ (PortState.free = .free ∧ u.phase = .idle) := by
  cases h
  case pack => exact .inr ⟨rfl, hp⟩
  case eraseUnprobed | writeUnprobed => exact .inr ⟨rfl, rfl⟩
  all_goals exact .inl rfl

/-- Settles O25, by the cases of a step: `EventsInOrder` for the order, `SentLegal` for the packets. -/
theorem oneOutstandingCommand : Obligations.OneOutstandingCommand := by
  intro s t hreset ht
  have hto := step_to hreset ht
  have horder : EventsInOrder s s.portAtStep t := by
    cases hto
    case inFlight hp =>
      rw [Block.State.portAtStep, if_neg hp]
      exact eventsInOrder_runOn rfl rfl (.inl rfl)
    case wait hp hf =>
      rw [Block.State.portAtStep, if_pos hp]
      exact eventsInOrder_silent rfl (.inr ⟨rfl, hp⟩)
    case unread hp hc hf hi =>
      rw [Block.State.portAtStep, if_pos hp]
      exact eventsInOrder_silent rfl (.inr ⟨rfl, hp⟩)
    case start hp hop hc hf hwf hl =>
      rw [Block.State.portAtStep, if_pos hp]
      exact eventsInOrder_runOn hl.later.cfg hl.trace (hl.port hp)
  have hlegal : Inv s → SentLegal s t := by
    intro hi
    cases hto
    case inFlight hp => exact sentLegal_runOn hi rfl rfl rfl
    case wait => exact sentLegal_silent rfl
    case unread => exact sentLegal_silent rfl
    case start hp hop hc hf hwf hl =>
      exact sentLegal_runOn (hl.inv (inv_takeCall hi) hp hop hwf) hl.later.cfg hl.bank hl.trace
  obtain ⟨new, q, htrace, hport, hq⟩ := horder
  refine ⟨new, q, htrace, hport, hq, fun hi ws failed hmem => ?_⟩
  obtain ⟨new', htrace', hsent⟩ := hlegal hi
  obtain rfl := List.append_cancel_left (htrace.symm.trans htrace')
  exact hsent ws failed hmem

/-! ### Who writes the bank -/

/-- Outside a PROBE a tick keeps the bank (10_state.md R33). -/
theorem TickTo.bank_of_not_probe (h : TickTo s t) (hs : SeqOk s) (hop : s.op ≠ .probe) : t.bank = s.bank ∧ t.op ≠ .probe := by
  have hraise : ∀ (c : Bool) (e : ErrInfo) (u : State), u.op = s.op → u.bank = s.bank → e ≠ .bankInvalid →
      (raiseError c e u).bank = s.bank ∧ (raiseError c e u).op ≠ .probe := by
    intro c e u hu hb he
    rw [raiseError_bank, hu, hb]
    exact ⟨if_neg (by simp [hop, he]), nofun⟩
  cases h
  case doneProbe hp hd hw ho => exact absurd ho hop
  case geomAccepted hp hv => exact absurd ((seqOk_geomCheck hp).mp hs).2.1 hop
  case geomRejected hp hv => exact absurd ((seqOk_geomCheck hp).mp hs).2.1 hop
  case runDown | pollOver | drainFail | sendFail | noAck | responseFail | notDone | geomTimeout | geomFail =>
    exact hraise _ _ _ rfl rfl nofun
  case doneErase | chunkNone => exact ⟨rfl, nofun⟩
  all_goals exact ⟨rfl, hop⟩

/-- How a PROBE stands: it goes on and the bank is as before, it has committed the decoded geometry, or it has failed and the bank
is all zero (10_state.md R33, 42_probe.md R181). -/
inductive ProbeStands (b : Bank) (results : List OpResult) (t : State) : Prop where
  | goesOn (hop : t.op = .probe) (hr : t.results = results) (hb : t.bank = b)
  | committed (hp : t.phase = .idle) (hop : t.op = .none) (hr : t.results = results ++ [.ok]) (hb : t.bank = t.geom.decode)
      (hv : t.bank.valid t.cfg = true) (hk : t.err.kind = .none)
  | failed (e : ErrInfo) (hp : t.phase = .idle) (hop : t.op = .none) (hr : t.results = results ++ [.err e none])
      (hb : t.bank = Bank.unprobed)

theorem TickTo.probeStands (h : TickTo s t) (hs : SeqOk s) (hop : s.op = .probe) : ProbeStands s.bank s.results t := by
  have hraise : ∀ (c : Bool) (e : ErrInfo) (u : State), u.op = .probe → u.results = s.results →
      ProbeStands s.bank s.results (raiseError c e u) := by
    intro c e u hu hr
    refine .failed e rfl rfl ?_ ?_
    · rw [raiseError_results, hu, if_neg nofun, hr, if_neg (by simp)]
    · rw [raiseError_bank, if_pos (.inl hu)]
  cases h
  case runErase hp hr hg ho => simp [hop] at ho
  case runWrite hp hr hg ho => simp [hop] at ho
  case doneErase hp hd hw ho => simp [hop] at ho
  case doneWrite hp hd hw ho => simp [hop] at ho
  case chunkNone hp hn => exact absurd ((seqOk_chunk hp).mp hs).2.1 (by simp [hop])
  case geomAccepted hp hv =>
    refine .committed rfl rfl ?_ rfl hv rfl
    rw [finishOk_results, setBank_op, hop, if_neg nofun, setBank_results]
  case runDown | pollOver | drainFail | sendFail | noAck | responseFail | notDone | geomTimeout | geomFail | geomRejected =>
    exact hraise _ _ _ hop rfl
  all_goals exact .goesOn hop rfl rfl

theorem probeStands_runOn {u : State} (hs : SeqOk u) (hop : u.op = .probe) : ProbeStands u.bank u.results (runOn u) := by
  refine (runOn_keeps (P := fun t => SeqOk t ∧ ProbeStands u.bank u.results t) ?_ ⟨hs, .goesOn hop rfl rfl⟩).2
  rintro v t ⟨hs, hv⟩ ht
  have hbusy : v.phase ≠ .idle := fun hp => by simp [tick_idle hp] at ht
  refine ⟨(tick_to ht).seqOk hs, ?_⟩
  cases hv with
  | goesOn hop hr hb => exact hr ▸ hb ▸ (tick_to ht).probeStands hs hop
  | committed hp => exact absurd hp hbusy
  | failed e hp => exact absurd hp hbusy

theorem bank_runOn_of_not_probe {u : State} (hs : SeqOk u) (hop : u.op ≠ .probe) : (runOn u).bank = u.bank := by
  refine (runOn_keeps (P := fun t => SeqOk t ∧ t.op ≠ .probe ∧ t.bank = u.bank) ?_ ⟨hs, hop, rfl⟩).2.2
  rintro v t ⟨hs, hop, hb⟩ ht
  obtain ⟨hbank, hop'⟩ := (tick_to ht).bank_of_not_probe hs hop
  exact ⟨(tick_to ht).seqOk hs, hop', hbank.trans hb⟩

theorem Launched.op_ne_probe {i : Instr} {u : State} (h : Launched s i u) (hop : s.op = .none) (hi : i ≠ .hostProbe) :
    u.op ≠ .probe := by
  cases h
  case probe => exact absurd rfl hi
  case erase | write | eraseUnprobed | writeUnprobed => nofun
  all_goals exact fun h => by simp [show s.op = .probe from h] at hop

/-- Settles O37, by the cases of a step: outside a PROBE no tick writes the bank, within one `ProbeStands` says how. -/
theorem onlyProbeWritesTheBank : Obligations.OnlyProbeWritesTheBank := by
  intro s t hphase hreset ht
  have hs := (phaseOk_iff.mp hphase).1
  have hto := step_to hreset ht
  refine ⟨fun hop hnot => ?_, fun hprobe => ?_⟩
  · cases hto
    case inFlight => exact bank_runOn_of_not_probe hs hop
    case wait | unread => rfl
    case start hp hnone hc hf hwf hl =>
      have hop' := hl.op_ne_probe hnone (by rintro rfl; exact hnot _ hf)
      rw [bank_runOn_of_not_probe (hl.seqOk hp hnone) hop', hl.bank]
  · have hstands : ProbeStands s.bank s.results t := by
      cases hto
      case inFlight hp =>
        obtain hop | ⟨u, hu⟩ := hprobe
        · exact probeStands_runOn hs hop
        · by_cases hr : s.phase = .respRead
          · rw [fetch_respRead hr, fetchResponse] at hu
            split at hu
            · cases hu
            · split at hu <;> cases hu
          · rw [fetch_elsewhere hp hr] at hu
            cases hu
      case wait hp hf =>
        obtain hop | ⟨u, hu⟩ := hprobe
        · exact absurd ((seqOk_idle hp).mp hs).1 (by simp [hop])
        · simp [hf] at hu
      case unread hp hc hf hi =>
        obtain hop | ⟨u, hu⟩ := hprobe
        · exact absurd ((seqOk_idle hp).mp hs).1 (by simp [hop])
        · rw [hf] at hu
          cases hu
          exact absurd rfl hi
      case start hp hnone hc hf hwf hl =>
        obtain hop | ⟨u, hu⟩ := hprobe
        · simp [hop] at hnone
        · rw [hf] at hu
          cases hu
          have hseq := hl.seqOk hp hnone
          cases hl with
          | command hc => cases hc
          | probe => exact probeStands_runOn hseq rfl
    cases hstands with
    | goesOn hop hr hb => exact .inl ⟨hop, hr, hb⟩
    | committed hp hop hr hb hv => exact .inr (.inl ⟨hop, hr, hb, (stepKeepsParametersAndHistory s t ht).1 ▸ hv⟩)
    | failed e hp hop hr hb =>
      exact .inr (.inr ⟨hop, ⟨e, hr⟩, hb, fun i => by rw [Block.State.sect, hb]; exact sect_of_ge (Nat.zero_le i)⟩)

end Sys2Proof.Machine
end

section
/-! One command cycle, from its send to its end (41_protocol_cycle.md R151 to R156, R159): the runs that each list of answers
gives, and the statements about the wire commands, CYCLE and the response of a bare cycle. -/

namespace Sys2Proof.Machine

/-! ### What follows a cycle -/

section

variable {τ : Type} {s : Block.State τ}

theorem afterCycle_bare (hw : s.whole = false) : afterCycle s = { s with phase := .idle } := by simp [afterCycle, hw]

theorem afterCycle_probe (hw : s.whole = true) (ho : s.op = .probe) : afterCycle s = startGeomRead s := by simp [afterCycle, hw, ho]

theorem afterCycle_erase (hw : s.whole = true) (ho : s.op = .erase) : afterCycle s = finishOk s := by simp [afterCycle, hw, ho]

theorem afterCycle_write (hw : s.whole = true) (ho : s.op = .write) : afterCycle s = advance s := by simp [afterCycle, hw, ho]

end

variable {u : State} {n : Nat} {packet : List Word}

/-! ### The runs of one cycle -/

/-- The state in which the response word has been compared with the sentinel and found equal. -/
def acceptedCycle (packet : List Word) (rs : List Reply) (u : State) : State :=
  { u with
    pstate := .done, phase := .respCheck, resp := u.cfg.rspDone, replies := rs
    trace := u.trace ++ cycleEvents packet u.cfg.rspDone }

theorem runOn_send_fail {r : Reply} {rs : List Reply} (hp : u.phase = .send n) (hw : u.stg.words 0 n = packet)
    (hr : u.replies = r :: rs) (hg : r.good = false) :
    runOn u = raiseError true (.transportError r.err)
      { u with replies := rs, trace := u.trace ++ [.send packet (some r.err)] } := by
  rw [(TickTo.sendFail hp hr hg).runOn, runOn_raiseError, hw]

theorem runOn_send {a : Reply} {rs : List Reply} (hp : u.phase = .send n) (hw : u.stg.words 0 n = packet)
    (hr : u.replies = a :: rs) (hg : a.good = true) :
    runOn u = runOn { u with
      pstate := .awaitingAck, phase := .ackWait, replies := rs, trace := u.trace ++ [.send packet none] } := by
  rw [(TickTo.sendOk hp hr hg).runOn, (TickTo.handshake rfl).runOn, hw]

theorem runOn_send_noAck {a r : Reply} {rs : List Reply} (hp : u.phase = .send n) (hw : u.stg.words 0 n = packet)
    (hr : u.replies = a :: r :: rs) (ha : a.good = true) (hg : r.good = false) :
    runOn u = raiseError true .transportTimeout
      { u with replies := rs, trace := u.trace ++ [.send packet none, .hs ackTimeoutMs false] } := by
  rw [runOn_send hp hw hr ha, (TickTo.noAck rfl rfl hg).runOn, runOn_raiseError, List.append_assoc]
  rfl

theorem runOn_send_ack {a b : Reply} {rs : List Reply} (hp : u.phase = .send n) (hw : u.stg.words 0 n = packet)
    (hr : u.replies = a :: b :: rs) (ha : a.good = true) (hb : b.good = true) :
    runOn u = runOn { u with
      pstate := .awaitingAck, phase := .respRead, replies := rs
      trace := u.trace ++ [.send packet none, .hs ackTimeoutMs true] } := by
  rw [runOn_send hp hw hr ha, (TickTo.ack rfl rfl hb).runOn, List.append_assoc]
  rfl

theorem runOn_send_responseFail {a b r : Reply} {rs : List Reply} (hp : u.phase = .send n) (hw : u.stg.words 0 n = packet)
    (hr : u.replies = a :: b :: r :: rs) (ha : a.good = true) (hb : b.good = true) (hg : r.good = false) :
    runOn u = raiseError true (.transportError r.err)
      { u with replies := rs, trace := u.trace ++ [.send packet none, .hs ackTimeoutMs true, .recv (.err r.err)] } := by
  rw [runOn_send_ack hp hw hr ha hb, (TickTo.responseFail rfl rfl hg).runOn, runOn_raiseError, List.append_assoc]
  rfl

/-- A response word read and compared (41_protocol_cycle.md R155, R156), in any operation. -/
theorem runOn_response {w : Word} {e : TransportErr TransportValue} {rs : List Reply} (hp : u.phase = .respRead)
    (hr : u.replies = ⟨true, w, e⟩ :: rs) :
    runOn u =
      if w = u.cfg.rspDone then
        runOn (afterCycle { u with
          pstate := .done, phase := .respCheck, resp := w, replies := rs, trace := u.trace ++ [.recv (.word w)] })
      else
        raiseError true (.protocolFailure u.tag w)
          { u with resp := w, replies := rs, trace := u.trace ++ [.recv (.word w)] } := by
  rw [(TickTo.response hp hr rfl).runOn, runOn_tick (tick_respCheck rfl)]
  split
  · next h => rw [checkResponse_of_eq h]
  · next h =>
    rw [checkResponse_of_ne h, runOn_raiseError]
    rfl

theorem runOn_send_otherWord {c : CycleReplies} {rs : List Reply} (hp : u.phase = .send n) (hw : u.stg.words 0 n = packet)
    (hr : u.replies = c.list ++ rs) (ha : c.sent.good = true) (hb : c.ack.good = true) (hg : c.response.good = true)
    (hne : c.response.word ≠ u.cfg.rspDone) :
    runOn u = raiseError true (.protocolFailure u.tag c.response.word)
      { u with resp := c.response.word, replies := rs, trace := u.trace ++ cycleEvents packet c.response.word } := by
  obtain ⟨a, b, ⟨g, w, e⟩⟩ := c
  obtain rfl : g = true := hg
  rw [runOn_send_ack hp hw hr ha hb, runOn_response rfl rfl, if_neg hne, List.append_assoc]
  rfl

theorem runOn_send_accepted {c : CycleReplies} {rs : List Reply} (hp : u.phase = .send n) (hw : u.stg.words 0 n = packet)
    (hr : u.replies = c.list ++ rs) (hc : c.accepts u.cfg) : runOn u = runOn (afterCycle (acceptedCycle packet rs u)) := by
  obtain ⟨a, b, ⟨g, w, e⟩⟩ := c
  obtain ⟨ha, hb, hg, hword⟩ := hc
  obtain rfl : g = true := hg
  obtain rfl : w = u.cfg.rspDone := hword
  rw [runOn_send_ack hp hw hr ha hb, runOn_response rfl rfl, if_pos rfl, List.append_assoc]
  rfl

/-- Everything that can come of a command cycle: it waits in one of its three calls, it fails with its events (R159 (b) to (e)), or
it is acknowledged with the sentinel and its operation goes on. -/
inductive CycleRun (u : State) (n : Nat) (packet : List Word) : Prop where
  | waits (ph : Phase) (ps : PState) (new : List Event) (hph : ph = .send n ∨ ph = .ackWait ∨ ph = .respRead)
      (hnew : new <+: [.send packet none, .hs ackTimeoutMs true])
      (h : runOn u = { u with phase := ph, pstate := ps, trace := u.trace ++ new, replies := [] })
  | fails (e : ErrInfo) (events : List Event) (w : Word) (rs : List Reply) (he : CycleFails u.cfg u.tag packet e events)
      (h : runOn u = raiseError true e { u with resp := w, replies := rs, trace := u.trace ++ events })
  | accepted (rs : List Reply) (h : runOn u = runOn (afterCycle (acceptedCycle packet rs u)))

theorem cycleRun (hp : u.phase = .send n) (hw : u.stg.words 0 n = packet) : CycleRun u n packet := by
  cases hr : u.replies with
  | nil =>
    refine .waits (.send n) u.pstate [] (.inl rfl) List.nil_prefix ?_
    rw [runOn_waiting (by rw [hp]; rfl) hr, List.append_nil, ← hp, ← hr]
  | cons a rs =>
    cases ha : a.good with
    | false => exact .fails _ _ u.resp rs (.inl ⟨a.err, rfl, rfl⟩) (runOn_send_fail hp hw hr ha)
    | true =>
      cases rs with
      | nil =>
        refine .waits .ackWait .awaitingAck [.send packet none] (.inr (.inl rfl)) ⟨_, rfl⟩ ?_
        rw [runOn_send hp hw hr ha, runOn_waiting rfl rfl]
      | cons b rs =>
        cases hb : b.good with
        | false => exact .fails _ _ u.resp rs (.inr (.inl ⟨rfl, rfl⟩)) (runOn_send_noAck hp hw hr ha hb)
        | true =>
          cases rs with
          | nil =>
            refine .waits .respRead .awaitingAck _ (.inr (.inr rfl)) (List.prefix_refl _) ?_
            rw [runOn_send_ack hp hw hr ha hb, runOn_waiting rfl rfl]
          | cons r rs =>
            cases hg : r.good with
            | false =>
              exact .fails _ _ u.resp rs (.inr (.inr (.inl ⟨r.err, rfl, rfl⟩))) (runOn_send_responseFail hp hw hr ha hb hg)
            | true =>
              by_cases hword : r.word = u.cfg.rspDone
              · exact .accepted rs (runOn_send_accepted (c := ⟨a, b, r⟩) hp hw hr ⟨ha, hb, hg, hword⟩)
              · exact .fails _ _ r.word rs (.inr (.inr (.inr ⟨r.word, hword, rfl, rfl⟩)))
                  (runOn_send_otherWord (c := ⟨a, b, r⟩) hp hw hr ha hb hg hword)

/-- A cycle's error is none of the gates' and none of the geometry's. -/
theorem CycleFails.kinds {p : Params} {tag : Tag} {e : ErrInfo} {events : List Event} (h : CycleFails p tag packet e events) :
    e ≠ .bankInvalid ∧ e ≠ .bankNotProbed ∧ e ≠ .targetNotRunning := by
  obtain ⟨x, rfl, -⟩ | ⟨rfl, -⟩ | ⟨x, rfl, -⟩ | ⟨w, -, rfl, -⟩ := h <;> exact ⟨nofun, nofun, nofun⟩

/-! ### Commands run alone -/

theorem commandOf_fits {p : Params} {b : Bank} {i : Instr} {tag : Tag} (hc : commandOf p i = some (tag, packet))
    (hwf : i.wf p b.bufLen b.bufAlign = true) : packet.length ≤ b.stgWords := by
  cases i <;> cases hc
  case wireProbe | wireEraseAll | wireEraseBlock => exact Nat.le_add_left ..
  case wireFlashBlock runlen offset data checksum =>
    obtain ⟨-, -, -, hbuf, -, -⟩ := (flashLegal_iff ..).mp hwf
    simp only [List.length_cons, List.length_append, List.length_nil, Bank.stgWords]
    omega
  case cycle => exact isPacketOf_fits hwf

theorem startCommand_words {s : State} (tag : Tag) (hstg : s.stg.wf = true) (hfit : packet.length ≤ s.bank.stgWords) :
    (startCommand tag packet s).stg.words 0 packet.length = packet := by
  rw [startCommand_stg, memory_words_writeAll packet hstg (by rwa [Nat.zero_add])]

/-- An error outside any operation is recorded, and nothing else changes (log entry 8). -/
theorem raiseError_bare {s : State} (e : ErrInfo) (hop : s.op = .none) (he : e ≠ .bankInvalid) (c : Bool) :
    raiseError c e s = { s with
      err := s.err.record e none, pstate := if c then .failed else s.pstate, op := .none, whole := false, phase := .idle } := by
  have hbank : ¬ (s.op = .probe ∨ e.kind = .bankInvalid) := by simp [hop, he]
  simp only [raiseError, if_neg hbank]
  simp only [hop, reduceCtorEq, and_false, if_false, if_true]

section

variable {s : State} {i : Instr} {tag : Tag} (hc : commandOf s.cfg i = some (tag, packet))
  (hwf : i.wf s.cfg s.bank.bufLen s.bank.bufAlign = true) (he : s.engaged = false) (hstg : s.stg.wf = true)
  (hidle : i = .cycle tag packet → s.pstate = .idle)
include hc hwf he hstg hidle

/-- A command run alone that fails: its error is recorded, and the command's registers are written. -/
theorem exec_command_fails {e : ErrInfo} {events : List Event} {w : Word} {rs : List Reply} (hne : e ≠ .bankInvalid)
    (hrun : (startCommand tag packet s.bare).stg.words 0 packet.length = packet →
      runOn (startCommand tag packet s.bare) = raiseError true e { startCommand tag packet s.bare with
        resp := w, replies := rs, trace := s.trace ++ events }) :
    exec i s = .next { s with
      whole := false, tag := tag, stg := s.stg.writeAll s.bank.stgWords 0 packet, resp := w, pstate := .failed
      err := s.err.record e none, replies := rs, trace := s.trace ++ events } := by
  obtain ⟨hop, hphase⟩ := (engaged_eq_false_iff s).mp he
  rw [exec_command hc hwf he hidle, hrun (startCommand_words (s := s.bare) tag hstg (commandOf_fits hc hwf)),
    raiseError_bare e ?_ hne]
  · simp only [startCommand, beginCycle, if_true, hop, hphase]
  · exact hop

end

/-- Settles O18: the run of an acknowledged cycle, which ends there. -/
theorem wireCommandsComplete : Obligations.WireCommandsComplete := by
  intro s i tag packet c rest hc hwf he hstg hidle haccepts hr
  obtain ⟨hop, hphase⟩ := (engaged_eq_false_iff s).mp he
  have hwords := startCommand_words (s := s.bare) tag hstg (commandOf_fits hc hwf)
  rw [exec_command hc hwf he hidle, runOn_send_accepted rfl hwords hr haccepts, afterCycle_bare rfl, runOn_idle rfl]
  simp only [acceptedCycle, startCommand, beginCycle, hphase]

/-- Settles O19: the run of a cycle that another word answers. -/
theorem wireCommandsReportFailure : Obligations.WireCommandsReportFailure := by
  intro s i tag packet c rest hc hwf he hstg hidle ha hb hg hne hr
  exact exec_command_fails hc hwf he hstg hidle (e := .protocolFailure tag c.response.word) nofun
    fun hwords => runOn_send_otherWord rfl hwords hr ha hb hg hne

/-- Settles O20: the three runs that end at a failing call. -/
theorem wireCommandsCutShort : Obligations.WireCommandsCutShort := by
  intro s i tag packet rest hc hwf he hstg hidle
  refine ⟨fun r hg hr => ?_, fun a r ha hg hr => ?_, fun a b r ha hb hg hr => ?_⟩
  · exact exec_command_fails hc hwf he hstg hidle (e := .transportError r.err) (w := s.resp) nofun
      fun hwords => runOn_send_fail rfl hwords hr hg
  · exact exec_command_fails hc hwf he hstg hidle (e := .transportTimeout) (w := s.resp) nofun
      fun hwords => runOn_send_noAck rfl hwords hr ha hg
  · exact exec_command_fails hc hwf he hstg hidle (e := .transportError r.err) (w := s.resp) nofun
      fun hwords => runOn_send_responseFail rfl hwords hr ha hb hg

/-- A word beyond a packet stays (44_write.md R205). -/
theorem memory_read_writeAll_beyond {m : Memory} (h : m.wf = true) (size : Nat) {ws : List Word} {j : Nat} (hj : ws.length ≤ j) :
    (m.writeAll size 0 ws).read j = m.read j := by
  rw [memory_read_writeAll ws h]
  split
  · rw [Nat.sub_zero, List.getElem?_eq_none hj, Option.getD_none]
  · rfl

/-- Settles O21: in each run of a cycle alone, only the cycle's registers are written. -/
theorem wireCommandsFrame : Obligations.WireCommandsFrame := by
  intro s i tag packet hc hwf he hstg hidle
  obtain ⟨hop, hphase⟩ := (engaged_eq_false_iff s).mp he
  have hwords := startCommand_words (s := s.bare) tag hstg (commandOf_fits hc hwf)
  have hbeyond : ∀ j, packet.length ≤ j → (s.stg.writeAll s.bank.stgWords 0 packet).read j = s.stg.read j :=
    fun j hj => memory_read_writeAll_beyond hstg _ hj
  rw [exec_command hc hwf he hidle]
  refine ⟨_, rfl, ?_⟩
  cases cycleRun (u := startCommand tag packet s.bare) rfl hwords with
  | waits ph ps new hph hnew h =>
    rw [h]
    exact ⟨rfl, rfl, rfl, rfl, rfl, rfl, rfl, hop, rfl, rfl, rfl, rfl, hbeyond, .inr hph⟩
  | fails e events w rs hfails h =>
    rw [h, raiseError_bare e ?_ hfails.kinds.1]
    · exact ⟨rfl, rfl, rfl, rfl, rfl, rfl, rfl, rfl, rfl, rfl, rfl, rfl, hbeyond, .inl rfl⟩
    · exact hop
  | accepted rs h =>
    rw [h, afterCycle_bare rfl, runOn_idle rfl]
    exact ⟨rfl, rfl, rfl, rfl, rfl, rfl, rfl, hop, rfl, rfl, rfl, rfl, hbeyond, .inl rfl⟩

/-! ### The response word in each operation -/

/-- The response word, read where the block reads one. -/
theorem exec_respDone_respRead {s : State} (code : Word) (hp : s.phase = .respRead) :
    exec (.respDone code) s = .next (
      if code = s.cfg.rspDone then
        runOn (afterCycle { s with
          pstate := .done, phase := .respCheck, resp := code, trace := s.trace ++ [.recv (.word code)] })
      else
        raiseError true (.protocolFailure s.tag code) { s with resp := code, trace := s.trace ++ [.recv (.word code)] }) := by
  rw [exec_respDone_receiving code (by rw [hp]; rfl),
    runOn_response (u := { s with replies := ⟨true, code, default⟩ :: s.replies }) hp rfl]

theorem exec_respDone_sentinel {s : State} {code : Word} (hp : s.phase = .respRead) (hcode : code = s.cfg.rspDone) :
    exec (.respDone code) s = .next (runOn (afterCycle { s with
      pstate := .done, phase := .respCheck, resp := code, trace := s.trace ++ [.recv (.word code)] })) := by
  rw [exec_respDone_respRead code hp, if_pos hcode]

theorem exec_respDone_other {s : State} {code : Word} (hp : s.phase = .respRead) (hcode : code ≠ s.cfg.rspDone) :
    exec (.respDone code) s = .next (raiseError true (.protocolFailure s.tag code)
      { s with resp := code, trace := s.trace ++ [.recv (.word code)] }) := by
  rw [exec_respDone_respRead code hp, if_neg hcode]

/-- Settles O27. -/
theorem responseEndsABareCycle : Obligations.ResponseEndsABareCycle := by
  intro s code hp hw hop
  refine ⟨fun hcode => ?_, fun hcode => ?_⟩
  · rw [exec_respDone_sentinel hp hcode, afterCycle_bare ?_, runOn_idle rfl]
    exact hw
  · rw [exec_respDone_other hp hcode, raiseError_bare _ ?_ ?_]
    · simp only [if_true, hop, hw]
      rfl
    · exact hop
    · nofun

/-- An error inside a command cycle of an operation that is no WRITE and no PROBE. -/
theorem raiseError_erase {s : State} (e : ErrInfo) (hop : s.op = .erase) (he : e ≠ .bankInvalid) (c : Bool) :
    raiseError c e s = { s with
      err := s.err.record e none, pstate := if c then .failed else s.pstate, op := .none, whole := false, phase := .idle
      results := s.results ++ [.err e none] } := by
  have hbank : ¬ (s.op = .probe ∨ e.kind = .bankInvalid) := by simp [hop, he]
  simp only [raiseError, if_neg hbank]
  simp only [hop, reduceCtorEq, and_false, if_false]

/-- Settles O28. -/
theorem responseEndsAnErase : Obligations.ResponseEndsAnErase := by
  intro s code hp hw hop
  refine ⟨fun hcode => ?_, fun hcode => ?_⟩
  · rw [exec_respDone_sentinel hp hcode, afterCycle_erase ?_ ?_, runOn_finishOk]
    · simp only [finishOk, hop, reduceCtorEq, if_false]
    · exact hw
    · exact hop
  · rw [exec_respDone_other hp hcode, raiseError_erase _ ?_ ?_]
    · rfl
    · exact hop
    · nofun

/-- An error in a PROBE clears the bank (42_probe.md R181). -/
theorem raiseError_probe {s : State} (e : ErrInfo) (hop : s.op = .probe) (c : Bool) :
    raiseError c e s = { s with
      bank := Bank.unprobed, stg := s.stg.fit Bank.unprobed.stgWords
      err := s.err.record e none, pstate := if c then .failed else s.pstate, op := .none, whole := false, phase := .idle
      results := s.results ++ [.err e none] } := by
  simp only [raiseError, hop, true_or, if_true, reduceCtorEq, and_false, if_false, setBank_bank, setBank_stg]

/-- Settles O29. -/
theorem responseInsideAProbe : Obligations.ResponseInsideAProbe := by
  intro s code hp hw hop
  refine ⟨fun hcode hr => ?_, fun hcode => ?_⟩
  · rw [exec_respDone_sentinel hp hcode, afterCycle_probe ?_ ?_, runOn_waiting rfl ?_]
    · rfl
    · exact hr
    · exact hw
    · exact hop
  · rw [exec_respDone_other hp hcode, raiseError_probe]
    · rfl
    · exact hop

/-- An error inside a command cycle of a WRITE (44_write.md R209). -/
theorem raiseError_write {s : State} (e : ErrInfo) (hop : s.op = .write) (he : e ≠ .bankInvalid) :
    raiseError true e s = { s with
      err := s.err.record e (some s.xfer.curOffset), pstate := .failed, op := .none, whole := false, phase := .idle
      results := s.results ++ [.err e (some s.xfer.curOffset)] } := by
  have hbank : ¬ (s.op = .probe ∨ e.kind = .bankInvalid) := by simp [hop, he]
  simp only [raiseError, if_neg hbank]
  simp only [hop, reduceCtorEq, if_false, and_self, if_true]

/-- Settles O30: the advance, then the head of the loop. -/
theorem responseInsideAWrite : Obligations.ResponseInsideAWrite := by
  intro s code hp hw hop
  refine ⟨fun hcode hlast => ?_, fun hcode hmore hr => ?_, fun hcode => ?_⟩
  · have hnone : s.xfer.remaining - s.xfer.runLen = 0 := by rw [hlast, BitVec.sub_self]; rfl
    rw [exec_respDone_sentinel hp hcode, afterCycle_write ?_ ?_, (TickTo.chunkNone rfl hnone).runOn, runOn_finishOk]
    · simp only [finishOk, advance, hop, reduceCtorEq, if_false, hnone]
    · exact hw
    · exact hop
  · have hnext : s.xfer.remaining - s.xfer.runLen ≠ 0 := fun h => hmore (by
      have := congrArg (· + s.xfer.runLen) h
      simpa only [BitVec.sub_add_cancel, show (0 : Word) = 0#32 from rfl, BitVec.zero_add] using this)
    rw [exec_respDone_sentinel hp hcode, afterCycle_write ?_ ?_, (TickTo.chunkNext rfl hnext).runOn, runOn_waiting rfl ?_]
    · exact ⟨_, _, rfl, buildChunk_phase _, hop, rfl, rfl, rfl, rfl, rfl, rfl, rfl, rfl⟩
    · exact hr
    · exact hw
    · exact hop
  · rw [exec_respDone_other hp hcode, raiseError_write _ ?_ ?_]
    · rfl
    · exact hop
    · nofun

end Sys2Proof.Machine
end

section
/-! ERASE (43_erase.md), the two gates of ERASE and WRITE (60_exceptions.md R227, R228), and the empty WRITE (44_write.md R202). -/

namespace Sys2Proof.Machine

variable {s : State}

/-! ### The gates -/

/-- An error outside a command cycle of an ERASE or a WRITE: the bank and `STG` stay, and no offset is recorded. -/
theorem raiseError_gate (e : ErrInfo) (hop : s.op = .erase ∨ s.op = .write) (he : e ≠ .bankInvalid) :
    raiseError false e s = { s with
      err := s.err.record e none, op := .none, whole := false, phase := .idle, results := s.results ++ [.err e none] } := by
  have hbank : ¬ (s.op = .probe ∨ e.kind = .bankInvalid) := by obtain hop | hop := hop <;> simp [hop, he]
  have hnone : s.op ≠ .none := by obtain hop | hop := hop <;> simp [hop]
  simp only [raiseError, if_neg hbank, if_neg hnone, Bool.false_eq_true, false_and, if_false]

/-- An accepted operation of a probed bank, about to ask whether the target runs (43_erase.md R192, 44_write.md R201). -/
def atRunCheck (kind : OpKind) (args : Args) (s : State) : State := { accept kind args s.bare with phase := .runCheck }

/-- The target does not run: the operation ends there (43_erase.md R192, 44_write.md R201). -/
theorem runOn_targetDown {kind : OpKind} {args : Args} {r : Reply} {rs : List Reply} (hk : kind = .erase ∨ kind = .write)
    (hr : s.replies = r :: rs) (hg : r.good = false) :
    runOn (atRunCheck kind args s) = { accept kind args s.bare with
      err := s.err.record .targetNotRunning none, op := .none, whole := false, phase := .idle, replies := rs
      trace := s.trace ++ [.run false], results := s.results ++ [.err .targetNotRunning none] } := by
  rw [(TickTo.runDown (s := atRunCheck kind args s) rfl hr hg).runOn, runOn_raiseError, raiseError_gate .targetNotRunning ?_ nofun]
  · rfl
  · exact hk

/-- Settles O46: the unprobed bank first, then the target. -/
theorem eraseAndWriteGates : Obligations.EraseAndWriteGates := by
  intro s h he hne hpayload
  have hunprobed : ∀ kind args, kind = .erase ∨ kind = .write →
      raiseError false .bankNotProbed (accept kind args s.bare) = { accept kind args s.bare with
        err := s.err.record .bankNotProbed none, op := .none, whole := false, phase := .idle
        results := s.results ++ [.err .bankNotProbed none] } := by
    intro kind args hk
    rw [raiseError_gate .bankNotProbed ?_ nofun]
    · rfl
    · exact hk
  cases h with
  | probe => exact absurd rfl hne
  | erase first last =>
    refine ⟨fun hb => ?_, fun r rest hb hr hg => ?_⟩
    · rw [HostOp.instr, exec_hostErase_unprobed first last he hb, hunprobed _ _ (.inl rfl)]
      exact ⟨_, rfl, rfl, rfl, rfl, rfl, rfl, rfl, rfl, rfl⟩
    · rw [HostOp.instr, exec_hostErase first last he hb, ← atRunCheck, runOn_targetDown (.inl rfl) hr hg]
      exact ⟨_, rfl, rfl, rfl, rfl, rfl, rfl, rfl, rfl, rfl⟩
  | write offset payload =>
    have hp := hpayload offset payload rfl
    refine ⟨fun hb => ?_, fun r rest hb hr hg => ?_⟩
    · rw [HostOp.instr, exec_hostWrite_unprobed offset he hp hb, hunprobed _ _ (.inr rfl)]
      exact ⟨_, rfl, rfl, rfl, rfl, rfl, rfl, rfl, rfl, rfl⟩
    · rw [HostOp.instr, exec_hostWrite offset he hp hb, ← atRunCheck, runOn_targetDown (.inr rfl) hr hg]
      exact ⟨_, rfl, rfl, rfl, rfl, rfl, rfl, rfl, rfl, rfl⟩

/-! ### WRITE past its gates -/

/-- A WRITE at the head of its loop for the first time (44_write.md R202). -/
def writeStarted (offset : Word) (payload : List Byte) (rs : List Reply) (s : State) : State :=
  startWrite { atRunCheck .write ⟨0, 0, offset, payload⟩ s with replies := rs, trace := s.trace ++ [.run true] }

theorem runOn_writeStarted {offset : Word} {payload : List Byte} {r : Reply} {rs : List Reply} (hr : s.replies = r :: rs)
    (hg : r.good = true) :
    runOn (atRunCheck .write ⟨0, 0, offset, payload⟩ s) = runOn (writeStarted offset payload rs s) :=
  (TickTo.runWrite (s := atRunCheck .write ⟨0, 0, offset, payload⟩ s) rfl hr hg rfl).runOn

theorem payload_nil_fits (p : Params) : payloadTooLong p [] = false := by
  by_contra h
  simpa using (payloadTooLong_iff p []).mp (by simpa using h)

/-- Settles O47: the loop ends at its head. -/
theorem emptyWriteSendsNothing : Obligations.EmptyWriteSendsNothing := by
  intro s offset run rest he hb hrun hr
  obtain ⟨hop, hphase⟩ := (engaged_eq_false_iff s).mp he
  rw [exec_hostWrite offset he (payload_nil_fits s.cfg) hb, ← atRunCheck, runOn_writeStarted hr hrun,
    (TickTo.chunkNone (s := writeStarted offset [] rest s) rfl rfl).runOn, runOn_finishOk]
  simp only [finishOk, writeStarted, startWrite, atRunCheck, accept, reduceCtorEq, if_false, hop, hphase]
  rfl

/-! ### ERASE past its gates -/

/-- An ERASE about to send its command (43_erase.md R193, R194). -/
def eraseStarted (first last : Word) (rs : List Reply) (s : State) : State :=
  startCommand (eraseCommand s.cfg s.bank first last).1 (eraseCommand s.cfg s.bank first last).2
    { atRunCheck .erase ⟨first, last, 0, []⟩ s with replies := rs, trace := s.trace ++ [.run true] }

theorem runOn_eraseStarted {first last : Word} {r : Reply} {rs : List Reply} (hr : s.replies = r :: rs) (hg : r.good = true) :
    runOn (atRunCheck .erase ⟨first, last, 0, []⟩ s) = runOn (eraseStarted first last rs s) :=
  (TickTo.runErase (s := atRunCheck .erase ⟨first, last, 0, []⟩ s) rfl hr hg rfl).runOn

theorem length_eraseCommand_le (p : Params) (b : Bank) (first last : Word) : (eraseCommand p b first last).2.length ≤ 3 := by
  unfold eraseCommand
  split <;> simp

theorem eraseStarted_words (first last : Word) (rs : List Reply) (hstg : s.stg.wf = true) :
    (eraseStarted first last rs s).stg.words 0 (eraseCommand s.cfg s.bank first last).2.length =
      (eraseCommand s.cfg s.bank first last).2 :=
  startCommand_words (s := { atRunCheck .erase ⟨first, last, 0, []⟩ s with replies := rs, trace := s.trace ++ [.run true] }) _ hstg
    ((length_eraseCommand_le ..).trans (Nat.le_add_left ..))

/-- Settles O44: the gates, then the one cycle, acknowledged. -/
theorem eraseCompletes : Obligations.EraseCompletes := by
  intro s first last run c rest he hstg hb hrun hc hr
  obtain ⟨hop, hphase⟩ := (engaged_eq_false_iff s).mp he
  rw [exec_hostErase first last he hb, ← atRunCheck, runOn_eraseStarted hr hrun,
    runOn_send_accepted (u := eraseStarted first last (c.list ++ rest) s) rfl (eraseStarted_words first last _ hstg) rfl hc,
    afterCycle_erase rfl rfl, runOn_finishOk]
  simp only [finishOk, acceptedCycle, eraseStarted, startCommand, beginCycle, atRunCheck, accept, reduceCtorEq, if_false, hop,
    hphase, List.append_assoc, List.singleton_append]

/-- What a cycle's error says of the kinds of ERASE (60_exceptions.md R221). -/
theorem CycleFails.eraseError {p : Params} {tag : Tag} {packet : List Word} {e : ErrInfo} {events : List Event}
    (h : CycleFails p tag packet e events) (htag : tag = .eraseAll ∨ tag = .eraseBlock) : eraseError e = true := by
  obtain ⟨x, rfl, -⟩ | ⟨rfl, -⟩ | ⟨x, rfl, -⟩ | ⟨w, -, rfl, -⟩ := h
  case inr.inr.inr => obtain rfl | rfl := htag <;> rfl
  all_goals rfl

/-- Settles O45: the gates, and the runs of the one cycle past them. -/
theorem eraseOutcomesAndFrame : Obligations.EraseOutcomesAndFrame := by
  intro s first last he hstg
  have hbeyond : ∀ j, 3 ≤ j →
      (s.stg.writeAll s.bank.stgWords 0 (eraseCommand s.cfg s.bank first last).2).read j = s.stg.read j :=
    fun j hj => memory_read_writeAll_beyond hstg _ ((length_eraseCommand_le ..).trans hj)
  cases hb : s.probed with
  | false =>
    rw [exec_hostErase_unprobed first last he hb, raiseError_gate .bankNotProbed ?_ nofun]
    · exact ⟨_, [], rfl, (List.append_nil _).symm, rfl, rfl, rfl, rfl, rfl, rfl, rfl, fun _ _ => rfl,
        .inr (.inl ⟨_, rfl, rfl, rfl, rfl, rfl, .inl ⟨rfl, rfl, rfl⟩⟩)⟩
    · exact .inl rfl
  | true =>
    rw [exec_hostErase first last he hb, ← atRunCheck]
    cases hr : s.replies with
    | nil =>
      rw [runOn_waiting (s := atRunCheck .erase ⟨first, last, 0, []⟩ s) rfl hr]
      exact ⟨_, [], rfl, (List.append_nil _).symm, rfl, rfl, rfl, rfl, rfl, rfl, rfl, fun _ _ => rfl,
        .inr (.inr ⟨rfl, rfl, nofun, hr, rfl, List.nil_prefix⟩)⟩
    | cons r rs =>
      cases hg : r.good with
      | false =>
        rw [runOn_targetDown (.inl rfl) hr hg]
        exact ⟨_, [.run false], rfl, rfl, rfl, rfl, rfl, rfl, rfl, rfl, rfl, fun _ _ => rfl,
          .inr (.inl ⟨_, rfl, rfl, rfl, rfl, rfl, .inr (.inl ⟨rfl, rfl, rfl⟩)⟩)⟩
      | true =>
        rw [runOn_eraseStarted hr hg]
        cases cycleRun (u := eraseStarted first last rs s) rfl (eraseStarted_words first last rs hstg) with
        | waits ph ps new hph hnew h =>
          rw [h]
          refine ⟨_, .run true :: new, rfl, List.append_assoc .., rfl, rfl, rfl, rfl, rfl, rfl, rfl, hbeyond,
            .inr (.inr ⟨rfl, rfl, ?_, rfl, rfl, ?_⟩)⟩
          · obtain rfl | rfl | rfl := hph <;> nofun
          · exact (List.prefix_cons_inj _).mpr (hnew.trans ⟨[.recv (.word s.cfg.rspDone)], rfl⟩)
        | fails e events w rs' hfails h =>
          rw [h, raiseError_erase e ?_ hfails.kinds.1]
          · exact ⟨_, .run true :: events, rfl, List.append_assoc .., rfl, rfl, rfl, rfl, rfl, rfl, rfl, hbeyond,
              .inr (.inl ⟨e, rfl, rfl, hfails.eraseError (eraseCommand_tag ..), rfl, rfl, .inr (.inr ⟨rfl, events, rfl, hfails⟩)⟩)⟩
          · rfl
        | accepted rs' h =>
          rw [h, afterCycle_erase rfl rfl, runOn_finishOk]
          exact ⟨_, .run true :: cycleEvents _ _, rfl, List.append_assoc .., rfl, rfl, rfl, rfl, rfl, rfl, rfl, hbeyond,
            .inl ⟨rfl, rfl, rfl, rfl, rfl⟩⟩

end Sys2Proof.Machine
end

section
/-! The drain, from its first poll to its end (42_probe.md R171, R182): the runs that each list of answers gives, and the statements
about DRAIN. -/

namespace Sys2Proof.Machine

variable {u : State} {ws : List Word} {rs : List Reply}

/-! ### The limit -/

theorem drainExceeded_eq_false_iff : drainExceeded u = false ↔ drainFits u.cfg (u.drained + 1) := by
  unfold drainExceeded drainFits
  cases u.cfg.drainLimit with
  | none => simp
  | some m => simp only [decide_eq_false_iff_not, Option.some.injEq, forall_eq', not_le, Nat.succ_le_iff]

theorem drainFits_mono {p : Params} {m n : Nat} (h : drainFits p n) (hle : m ≤ n) : drainFits p m :=
  fun k hk => hle.trans (h k hk)

/-- The first word beyond the limit is one after as many as it admits. -/
theorem drainLimit_of_fits {p : Params} {n : Nat} (h : drainFits p n) (hnext : ¬ drainFits p (n + 1)) : p.drainLimit = some n := by
  simp only [drainFits, not_forall] at hnext
  obtain ⟨m, hm, hle⟩ := hnext
  rw [hm, Nat.le_antisymm (h m hm) (by omega)]

/-! ### One stale word -/

/-- A drain that has discarded these words, and polls again. -/
def discarded (ws : List Word) (rs : List Reply) (u : State) : State :=
  { u with phase := .drainPoll, drained := ws.length, replies := rs, trace := u.trace ++ staleEvents ws }

/-- A drain that has discarded these words, and takes one more. -/
def discarding (ws : List Word) (rs : List Reply) (u : State) : State :=
  { u with
    phase := .drainTake, drained := ws.length, replies := rs, trace := u.trace ++ (staleEvents ws ++ [.rxp true]) }

theorem runOn_poll_word {p : Reply} (hp : p.good = true) (hfit : drainFits u.cfg (ws.length + 1)) :
    runOn (discarded ws (p :: rs) u) = runOn (discarding ws rs u) := by
  rw [(TickTo.pollWord (s := discarded ws (p :: rs) u) rfl rfl hp (drainExceeded_eq_false_iff.mpr hfit)).runOn]
  simp only [discarded, discarding, List.append_assoc]

theorem runOn_discard {r : Reply} (hr : r.good = true) :
    runOn (discarding ws (r :: rs) u) = runOn (discarded (ws ++ [r.word]) rs u) := by
  rw [(TickTo.drainWord (s := discarding ws (r :: rs) u) rfl rfl hr).runOn]
  simp [discarded, discarding]

theorem runOn_discard_fail {r : Reply} (hr : r.good = false) :
    runOn (discarding ws (r :: rs) u) = raiseError false (.transportError r.err) { u with
      drained := ws.length, replies := rs, trace := u.trace ++ (staleEvents ws ++ [.rxp true, .recv (.err r.err)]) } := by
  rw [(TickTo.drainFail (s := discarding ws (r :: rs) u) rfl rfl hr).runOn, runOn_raiseError]
  simp only [discarding, List.append_assoc, List.singleton_append]
  rfl

theorem runOn_poll_over {p : Reply} (hp : p.good = true) (hover : ¬ drainFits u.cfg (ws.length + 1)) :
    runOn (discarded ws (p :: rs) u) =
      raiseError false (.transportError (Config.drainLimitError (discarded ws (p :: rs) u).trace.length)) { u with
        drained := ws.length, replies := rs, trace := u.trace ++ (staleEvents ws ++ [.rxp true]) } := by
  have hx : drainExceeded (discarded ws (p :: rs) u) = true := by
    rw [← Bool.not_eq_false, drainExceeded_eq_false_iff]
    exact hover
  rw [(TickTo.pollOver rfl rfl hp hx).runOn, runOn_raiseError]
  simp only [discarded, List.append_assoc]
  rfl

theorem runOn_poll_none {p : Reply} (hp : p.good = false) :
    runOn (discarded ws (p :: rs) u) =
      runOn (afterDrain { u with drained := ws.length, replies := rs, trace := u.trace ++ drainEvents ws }) := by
  rw [runOn_call (s := discarded ws (p :: rs) u) rfl nofun rfl]
  simp only [answer, answerPoll, discarded, hp, Bool.false_eq_true, if_false, afterDrain, startCommand, beginCycle, drainEvents,
    Block.State.log, List.append_assoc]

/-! ### The whole drain -/

theorem runOn_polls : ∀ (polls : List (Reply × Reply)) (ws : List Word), pollsGood polls →
    drainFits u.cfg (ws.length + polls.length) →
      runOn (discarded ws (pollReplies polls ++ rs) u) = runOn (discarded (ws ++ polls.map fun q => q.2.word) rs u)
  | [], ws, _, _ => by simp [pollReplies]
  | q :: polls, ws, hgood, hfit => by
    obtain ⟨⟨hpoll, htake⟩, hrest⟩ := List.forall_mem_cons.mp hgood
    have hreplies : pollReplies (q :: polls) ++ rs = q.1 :: q.2 :: (pollReplies polls ++ rs) := rfl
    rw [List.length_cons] at hfit
    rw [hreplies, runOn_poll_word hpoll (drainFits_mono hfit (by omega)), runOn_discard htake,
      runOn_polls polls _ hrest (drainFits_mono hfit (by simp; omega)), List.append_assoc]
    rfl

/-- Everything that can come of a drain: it waits in one of its calls, it fails with its events, or it ends and its operation goes
on. -/
inductive DrainRun (u : State) : Prop where
  | waits (ph : Phase) (n : Nat) (ws : List Word) (new : List Event) (hph : ph ≠ .idle) (hnew : new <+: drainEvents ws)
      (h : runOn u = { u with phase := ph, drained := n, replies := [], trace := u.trace ++ new })
  | fails (e : ErrInfo) (events : List Event) (n : Nat) (rs : List Reply) (he : DrainFails u.cfg e events)
      (h : runOn u = raiseError false e { u with drained := n, replies := rs, trace := u.trace ++ events })
  | ends (ws : List Word) (rs : List Reply)
      (h : runOn u = runOn (afterDrain { u with drained := ws.length, replies := rs, trace := u.trace ++ drainEvents ws }))

theorem drainRun_discarded : ∀ (rs : List Reply) (ws : List Word), drainFits u.cfg ws.length →
    runOn u = runOn (discarded ws rs u) → DrainRun u
  | [], ws, _, h => by
    rw [runOn_waiting (s := discarded ws [] u) rfl rfl] at h
    exact .waits .drainPoll _ ws _ nofun (List.prefix_append ..) h
  | p :: rs, ws, hfit, h => by
    cases hp : p.good with
    | false => exact .ends ws rs (h.trans (runOn_poll_none hp))
    | true =>
      by_cases hnext : drainFits u.cfg (ws.length + 1)
      · rw [runOn_poll_word hp hnext] at h
        cases rs with
        | nil =>
          rw [runOn_waiting (s := discarding ws [] u) rfl rfl] at h
          exact .waits .drainTake ws.length (ws ++ [0]) (staleEvents ws ++ [.rxp true]) nofun
            ⟨[.recv (.word 0), .rxp false], by simp [drainEvents]⟩ h
        | cons r rs =>
          cases hr : r.good with
          | false => exact .fails _ _ _ rs ⟨ws, .inl ⟨r.err, hnext, rfl, rfl⟩⟩ (h.trans (runOn_discard_fail hr))
          | true =>
            rw [runOn_discard hr] at h
            exact drainRun_discarded rs _ (by simpa using hnext) h
      · exact .fails _ _ _ rs ⟨ws, .inr ⟨_, drainLimit_of_fits hfit hnext, rfl, rfl⟩⟩ (h.trans (runOn_poll_over hp hnext))

theorem discarded_nil (hp : u.phase = .drainPoll) (hd : u.drained = 0) : discarded [] u.replies u = u := by
  simp only [discarded, List.length_nil, staleEvents_nil, List.append_nil, ← hp, ← hd]

/-- A drain at its first poll has discarded nothing. -/
theorem runOn_drain (hp : u.phase = .drainPoll) (hd : u.drained = 0) (hr : u.replies = rs) :
    runOn u = runOn (discarded [] rs u) := by
  rw [← hr, discarded_nil hp hd]

theorem drainRun (hp : u.phase = .drainPoll) (hd : u.drained = 0) : DrainRun u :=
  drainRun_discarded u.replies [] (fun _ _ => Nat.zero_le _) (runOn_drain hp hd rfl)

/-- A drain within its limit, to its end. -/
theorem runOn_drain_ends {polls : List (Reply × Reply)} {p : Reply} (hp : u.phase = .drainPoll) (hd : u.drained = 0)
    (hgood : pollsGood polls) (hfit : drainFits u.cfg polls.length) (hnone : p.good = false)
    (hr : u.replies = pollReplies polls ++ p :: rs) :
    runOn u = runOn (afterDrain { u with
      drained := polls.length, replies := rs, trace := u.trace ++ (pollEvents polls ++ [.rxp false]) }) := by
  rw [runOn_drain hp hd hr, runOn_polls polls [] hgood (by simpa using hfit), runOn_poll_none hnone, List.nil_append,
    List.length_map]
  rfl

/-- Settles O39. -/
theorem drainCompletes : Obligations.DrainCompletes := by
  intro s polls none' rest he hgood hfit hnone hr
  obtain ⟨-, hphase⟩ := (engaged_eq_false_iff s).mp he
  rw [exec_drain he, runOn_drain_ends (u := startDrain s.bare) rfl rfl hgood hfit hnone hr]
  simp only [afterDrain, startDrain, Bool.false_eq_true, if_false]
  rw [runOn_idle rfl, hphase]

/-- Settles O40: the drain as far as its limit, then the poll that reports one word more. -/
theorem drainLimitIsATransportError : Obligations.DrainLimitIsATransportError := by
  intro s m polls more rest he hlimit hlen hgood hmore hr
  obtain ⟨hop, -⟩ := (engaged_eq_false_iff s).mp he
  have hfit : drainFits s.cfg polls.length := fun k hk => by
    rw [hlimit] at hk
    cases hk
    exact hlen.le
  have hover : ¬ drainFits s.cfg ((polls.map fun q => q.2.word).length + 1) := fun h => by
    have := h m hlimit
    rw [List.length_map] at this
    omega
  rw [exec_drain he, runOn_drain (u := startDrain s.bare) rfl rfl hr, runOn_polls polls [] hgood (by simpa using hfit),
    List.nil_append, runOn_poll_over (u := startDrain s.bare) hmore hover, raiseError_bare (.transportError _) ?_ nofun]
  · exact ⟨_, rfl, rfl, rfl, rfl, rfl, rfl, rfl⟩
  · exact hop

end Sys2Proof.Machine
end

section
/-! The geometry read (42_probe.md R175): the runs that each list of answers gives, and the statements about GEOMREAD. -/

namespace Sys2Proof.Machine

variable {s u : State} {g : Geom} {k : BitVec 3} {rs : List Reply}

/-! ### One geometry word -/

/-- A geometry read that has received the first `k` words of `g`, and awaits the next handshake. -/
def readUpTo (k : BitVec 3) (g : Geom) (rs : List Reply) (u : State) : State :=
  { u with
    phase := .geomWait, gidx := k, geom := g, replies := rs, trace := u.trace ++ wordEvents u.cfg (g.list.take k.toNat) }

/-- That read, the next handshake acknowledged. -/
def readAcked (k : BitVec 3) (g : Geom) (rs : List Reply) (u : State) : State :=
  { u with
    phase := .geomRead, gidx := k, geom := g, replies := rs
    trace := u.trace ++ (wordEvents u.cfg (g.list.take k.toNat) ++ [.hs u.cfg.geomTimeoutMs true]) }

theorem runOn_geomAck {h : Reply} (hg : h.good = true) : runOn (readUpTo k g (h :: rs) u) = runOn (readAcked k g rs u) := by
  rw [(TickTo.geomAck (s := readUpTo k g (h :: rs) u) rfl rfl hg).runOn]
  simp only [readUpTo, readAcked, List.append_assoc]

theorem runOn_geomKeep {h : Reply} (hg : h.good = false) (ht : u.cfg.geomTimeoutMs = 0) :
    runOn (readUpTo k g (h :: rs) u) = runOn (readUpTo k g rs u) :=
  (TickTo.geomKeep (s := readUpTo k g (h :: rs) u) rfl rfl hg ht).runOn

theorem runOn_geomTimeout {h : Reply} (hg : h.good = false) (ht : u.cfg.geomTimeoutMs ≠ 0) :
    runOn (readUpTo k g (h :: rs) u) = raiseError false .transportTimeout { u with
      gidx := k, geom := g, replies := rs
      trace := u.trace ++ (wordEvents u.cfg (g.list.take k.toNat) ++ [.hs u.cfg.geomTimeoutMs false]) } := by
  rw [(TickTo.geomTimeout (s := readUpTo k g (h :: rs) u) rfl rfl hg ht).runOn, runOn_raiseError]
  simp only [readUpTo, List.append_assoc]
  rfl

theorem runOn_geomFail {w : Reply} (hg : w.good = false) :
    runOn (readAcked k g (w :: rs) u) = raiseError false (.transportError w.err) { u with
      gidx := k, geom := g, replies := rs
      trace := u.trace ++ (wordEvents u.cfg (g.list.take k.toNat) ++ [.hs u.cfg.geomTimeoutMs true, .recv (.err w.err)]) } := by
  rw [(TickTo.geomFail (s := readAcked k g (w :: rs) u) rfl rfl hg).runOn, runOn_raiseError]
  simp only [readAcked, List.append_assoc, List.singleton_append]
  rfl

/-- The events of the words received, one word later. -/
theorem wordEvents_set (p : Params) (g : Geom) {k : BitVec 3} (w : Word) (hk : k.toNat < 4) :
    wordEvents p ((g.set k w).list.take (k + 1).toNat) =
      wordEvents p (g.list.take k.toNat) ++ [.hs p.geomTimeoutMs true, .recv (.word w)] := by
  rw [geom_set_take g k w hk, wordEvents_append, wordEvents_cons, wordEvents_nil]

theorem runOn_geomWord {w : Reply} (hg : w.good = true) (hk : k.toNat < 3) :
    runOn (readAcked k g (w :: rs) u) = runOn (readUpTo (k + 1) (g.set k w.word) rs u) := by
  have hne : k ≠ 3 := fun h => by simp [h] at hk
  rw [(TickTo.geomWord (s := readAcked k g (w :: rs) u) rfl rfl hg hne).runOn]
  simp only [readAcked, readUpTo, wordEvents_set _ g w.word (show k.toNat < 4 by omega), List.append_assoc, List.cons_append,
    List.nil_append]

theorem runOn_geomLast {w : Reply} (hg : w.good = true) :
    runOn (readAcked 3 g (w :: rs) u) = runOn (afterGeomRead { u with
      gidx := 4, geom := g.set 3 w.word, replies := rs, trace := u.trace ++ geomEvents u.cfg (g.set 3 w.word) }) := by
  have hevents : geomEvents u.cfg (g.set 3 w.word) =
      wordEvents u.cfg (g.list.take 3) ++ [.hs u.cfg.geomTimeoutMs true, .recv (.word w.word)] :=
    wordEvents_set u.cfg g (k := 3) w.word (by decide)
  rw [runOn_call (s := readAcked 3 g (w :: rs) u) rfl nofun rfl, hevents]
  simp only [answer, answerGeomWord, readAcked, hg, if_true, afterGeomRead, Block.State.log, List.append_assoc, List.cons_append,
    List.nil_append]
  rfl

/-! ### The whole read -/

/-- Everything that can come of a geometry read: it waits in one of its calls, it fails with its events, or it ends and its
operation goes on. -/
inductive GeomRun (u : State) : Prop where
  | waits (ph : Phase) (k : BitVec 3) (g : Geom) (new : List Event) (hph : ph ≠ .idle) (hnew : new <+: geomEvents u.cfg g)
      (h : runOn u = { u with phase := ph, gidx := k, geom := g, replies := [], trace := u.trace ++ new })
  | fails (e : ErrInfo) (events : List Event) (k : BitVec 3) (g : Geom) (rs : List Reply)
      (he : GeomFails u.cfg g k.toNat e events)
      (h : runOn u = raiseError false e { u with gidx := k, geom := g, replies := rs, trace := u.trace ++ events })
  | ends (g : Geom) (rs : List Reply)
      (h : runOn u = runOn (afterGeomRead { u with
        gidx := 4, geom := g, replies := rs, trace := u.trace ++ geomEvents u.cfg g }))

/-- A first part of the read, with the handshake of its next word. -/
theorem wordEvents_acked_prefix (p : Params) (g : Geom) {k : BitVec 3} (hk : k.toNat < 4) :
    wordEvents p (g.list.take k.toNat) ++ [.hs p.geomTimeoutMs true] <+: geomEvents p g := by
  have hlen : k.toNat < g.list.length := hk
  refine List.IsPrefix.trans ?_ (wordEvents_take_prefix p g (k.toNat + 1))
  rw [List.take_succ_eq_append_getElem hlen, wordEvents_append]
  exact (List.prefix_append_right_inj _).mpr ⟨[.recv (.word g.list[k.toNat])], rfl⟩

theorem geomRun_readUpTo : ∀ (rs : List Reply) (k : BitVec 3) (g : Geom), k.toNat < 4 →
    runOn u = runOn (readUpTo k g rs u) → GeomRun u
  | [], k, g, _, h => by
    rw [runOn_waiting (s := readUpTo k g [] u) rfl rfl] at h
    exact .waits .geomWait k g _ nofun (wordEvents_take_prefix ..) h
  | a :: rs, k, g, hk, h => by
    cases ha : a.good with
    | false =>
      by_cases ht : u.cfg.geomTimeoutMs = 0
      · exact geomRun_readUpTo rs k g hk (h.trans (runOn_geomKeep ha ht))
      · exact .fails _ _ k g rs ⟨hk, .inr ⟨ht, rfl, rfl⟩⟩ (h.trans (runOn_geomTimeout ha ht))
    | true =>
      rw [runOn_geomAck ha] at h
      cases rs with
      | nil =>
        rw [runOn_waiting (s := readAcked k g [] u) rfl rfl] at h
        exact .waits .geomRead k g _ nofun (wordEvents_acked_prefix _ _ hk) h
      | cons w rs =>
        cases hw : w.good with
        | false => exact .fails _ _ k g rs ⟨hk, .inl ⟨w.err, rfl, rfl⟩⟩ (h.trans (runOn_geomFail hw))
        | true =>
          by_cases hlast : k = 3
          · subst hlast
            exact .ends _ rs (h.trans (runOn_geomLast hw))
          · have hnext : (k + 1).toNat < 4 ∧ k.toNat < 3 := by
              constructor <;> bv_omega
            rw [runOn_geomWord hw hnext.2] at h
            exact geomRun_readUpTo rs _ _ hnext.1 h

/-- A geometry read at its first handshake has received nothing. -/
theorem runOn_geomRead (hp : u.phase = .geomWait) (hk : u.gidx = 0) (hr : u.replies = rs) :
    runOn u = runOn (readUpTo 0 u.geom rs u) := by
  have htrace : u.trace ++ wordEvents u.cfg (u.geom.list.take (0 : BitVec 3).toNat) = u.trace := List.append_nil _
  rw [readUpTo, htrace, ← hp, ← hk, ← hr]

theorem geomRun (hp : u.phase = .geomWait) (hk : u.gidx = 0) : GeomRun u :=
  geomRun_readUpTo u.replies 0 u.geom (by decide) (runOn_geomRead hp hk rfl)

/-- A geometry read with every call answered, to its end. -/
theorem runOn_geomRead_ends {h0 w0 h1 w1 h2 w2 h3 w3 : Reply} (hp : u.phase = .geomWait) (hk : u.gidx = 0)
    (hgood : ∀ r ∈ [h0, w0, h1, w1, h2, w2, h3, w3], r.good = true)
    (hr : u.replies = [h0, w0, h1, w1, h2, w2, h3, w3] ++ rs) :
    runOn u = runOn (afterGeomRead { u with
      gidx := 4, geom := ⟨w0.word, w1.word, w2.word, w3.word⟩, replies := rs
      trace := u.trace ++ geomEvents u.cfg ⟨w0.word, w1.word, w2.word, w3.word⟩ }) := by
  simp only [List.forall_mem_cons] at hgood
  obtain ⟨gh0, gw0, gh1, gw1, gh2, gw2, gh3, gw3, -⟩ := hgood
  rw [runOn_geomRead hp hk hr]
  simp only [List.cons_append, List.nil_append]
  rw [runOn_geomAck gh0, runOn_geomWord gw0 (by decide), runOn_geomAck gh1, runOn_geomWord gw1 (by decide), runOn_geomAck gh2,
    runOn_geomWord gw2 (by decide), runOn_geomAck gh3]
  exact runOn_geomLast gw3

theorem runOn_afterGeomRead_bare (hw : u.whole = false) : runOn (afterGeomRead u) = { u with phase := .idle } := by
  rw [runOn_idle] <;> simp [afterGeomRead, hw]

/-- Settles O41. -/
theorem geomReadCompletes : Obligations.GeomReadCompletes := by
  intro s h0 w0 h1 w1 h2 w2 h3 w3 rest he hgood hr
  obtain ⟨-, hphase⟩ := (engaged_eq_false_iff s).mp he
  rw [exec_geomRead he, runOn_geomRead_ends (u := startGeomRead s.bare) rfl rfl hgood hr, runOn_afterGeomRead_bare rfl]
  simp only [startGeomRead, hphase]

/-! ### The handshake that is not acknowledged -/

/-- Without a time limit the block goes on waiting, however often it is not acknowledged (20_memory.md R68). -/
theorem runOn_geomWait_unacked : ∀ (nos : List Reply) {u : State}, u.phase = .geomWait → u.cfg.geomTimeoutMs = 0 →
    (∀ r ∈ nos, r.good = false) → u.replies = nos → runOn u = { u with replies := [] }
  | [], u, hp, _, _, hr => by rw [runOn_waiting (by rw [hp]; rfl) hr, ← hr]
  | r :: nos, u, hp, ht, hnos, hr => by
    obtain ⟨hg, hrest⟩ := List.forall_mem_cons.mp hnos
    rw [(TickTo.geomKeep hp hr hg ht).runOn, runOn_geomWait_unacked nos (u := { u with replies := nos }) hp ht hrest rfl]

/-- Settles O43. -/
theorem geometryHandshakeWaitsOrTimesOut : Obligations.GeometryHandshakeWaitsOrTimesOut := by
  intro s nos he hnos hr
  obtain ⟨hop, hphase⟩ := (engaged_eq_false_iff s).mp he
  refine ⟨fun ht => ?_, fun r rest hcons ht => ?_, fun u hp ht hreset hreplies => ⟨waitState_geomWait hp ht, ?_, ?_⟩⟩
  · rw [exec_geomRead he, runOn_geomWait_unacked nos (u := startGeomRead s.bare) rfl ht hnos hr]
    rfl
  · subst hcons
    rw [exec_geomRead he, (TickTo.geomTimeout (s := startGeomRead s.bare) rfl hr (hnos r (.head _)) ht).runOn, runOn_raiseError,
      raiseError_bare .transportTimeout ?_ nofun]
    · simp only [startGeomRead, Bool.false_eq_true, if_false, hop, hphase]
      rfl
    · exact hop
  · rw [step_in_flight hreset (by simp [hp]), runOn_geomWait_unacked nos hp ht hnos hreplies]
  · exact waitState_geomWait hp ht

/-! ### Every outcome of DRAIN and GEOMREAD -/

theorem DrainFails.transport {p : Params} {e : ErrInfo} {events : List Event} (h : DrainFails p e events) :
    ∃ x, e = .transportError x := by
  obtain ⟨ws, ⟨x, -, he, -⟩ | ⟨n, -, he, -⟩⟩ := h
  · exact ⟨x, he⟩
  · exact ⟨_, he⟩

theorem GeomFails.transport {p : Params} {e : ErrInfo} {events : List Event} {k : Nat} (h : GeomFails p g k e events) :
    (∃ x, e = .transportError x) ∨ e = .transportTimeout := by
  obtain ⟨-, ⟨x, he, -⟩ | ⟨-, he, -⟩⟩ := h
  · exact .inl ⟨x, he⟩
  · exact .inr he

/-- An event of the drain or of the geometry read: neither a send nor a target query. -/
def Reads (e : Event) : Prop := (∀ ws r, e ≠ .send ws r) ∧ ∀ b, e ≠ .run b

theorem reads_staleEvents (ws : List Word) : ∀ e ∈ staleEvents ws, Reads e := by
  intro e he
  simp only [staleEvents, List.mem_flatMap, List.mem_cons, List.not_mem_nil, or_false] at he
  obtain ⟨w, -, rfl | rfl⟩ := he <;> exact ⟨nofun, nofun⟩

theorem reads_wordEvents (p : Params) (ws : List Word) : ∀ e ∈ wordEvents p ws, Reads e := by
  intro e he
  simp only [wordEvents, List.mem_flatMap, List.mem_cons, List.not_mem_nil, or_false] at he
  obtain ⟨w, -, rfl | rfl⟩ := he <;> exact ⟨nofun, nofun⟩

theorem reads_drainEvents (ws : List Word) : ∀ e ∈ drainEvents ws, Reads e :=
  List.forall_mem_append.mpr ⟨reads_staleEvents ws, by simp [Reads]⟩

theorem DrainFails.reads {p : Params} {e : ErrInfo} {events : List Event} (h : DrainFails p e events) :
    ∀ e ∈ events, Reads e := by
  obtain ⟨ws, ⟨x, -, -, rfl⟩ | ⟨n, -, -, rfl⟩⟩ := h <;>
    exact List.forall_mem_append.mpr ⟨reads_staleEvents ws, by simp [Reads]⟩

theorem GeomFails.reads {p : Params} {e : ErrInfo} {events : List Event} {k : Nat} (h : GeomFails p g k e events) :
    ∀ e ∈ events, Reads e := by
  obtain ⟨-, ⟨x, -, rfl⟩ | ⟨-, -, rfl⟩⟩ := h <;>
    exact List.forall_mem_append.mpr ⟨reads_wordEvents _ _, by simp [Reads]⟩

theorem not_send_of_reads {new : List Event} (h : ∀ e ∈ new, Reads e) : ∀ ws r, .send ws r ∉ new :=
  fun ws r hmem => (h _ hmem).1 ws r rfl

/-- Settles O42: the runs of the drain and of the geometry read, each alone. -/
theorem drainAndGeomReadFrame : Obligations.DrainAndGeomReadFrame := by
  intro s i hi he
  obtain ⟨hop, -⟩ := (engaged_eq_false_iff s).mp he
  obtain rfl | rfl := hi
  · rw [exec_drain he]
    cases drainRun (u := startDrain s.bare) rfl rfl with
    | waits ph n ws new hph hnew h =>
      have hreads : ∀ e ∈ new, Reads e := fun e hm => reads_drainEvents ws e (hnew.subset hm)
      rw [h]
      exact ⟨_, new, rfl, rfl, not_send_of_reads hreads, rfl, rfl, rfl, rfl, rfl, rfl, rfl, rfl, rfl, hop, rfl, rfl, rfl, rfl,
        fun _ => ⟨rfl, rfl, .inr (.inr ⟨hph, rfl, rfl, ws, hnew⟩)⟩, nofun⟩
    | fails e events n rs hfails h =>
      obtain ⟨x, rfl⟩ := hfails.transport
      rw [h, raiseError_bare (.transportError x) ?_ nofun]
      · exact ⟨_, events, rfl, rfl, not_send_of_reads hfails.reads, rfl, rfl, rfl, rfl, rfl, rfl, rfl, rfl, rfl, rfl, rfl, rfl,
          rfl, rfl, fun _ => ⟨rfl, rfl, .inr (.inl ⟨rfl, _, hfails, rfl⟩)⟩, nofun⟩
      · exact hop
    | ends ws rs h =>
      rw [h, show runOn (afterDrain _) = _ from runOn_idle rfl]
      exact ⟨_, drainEvents ws, rfl, rfl, not_send_of_reads (reads_drainEvents ws), rfl, rfl, rfl, rfl, rfl, rfl, rfl, rfl, rfl,
        hop, rfl, rfl, rfl, rfl, fun _ => ⟨rfl, rfl, .inl ⟨rfl, rfl, ws, rfl⟩⟩, nofun⟩
  · rw [exec_geomRead he]
    cases geomRun (u := startGeomRead s.bare) rfl rfl with
    | waits ph k g new hph hnew h =>
      have hreads : ∀ e ∈ new, Reads e := fun e hm => reads_wordEvents _ _ e (hnew.subset hm)
      rw [h]
      exact ⟨_, new, rfl, rfl, not_send_of_reads hreads, rfl, rfl, rfl, rfl, rfl, rfl, rfl, rfl, rfl, hop, rfl, rfl, rfl, rfl,
        nofun, fun _ => .inr (.inr ⟨hph, rfl, rfl, hnew⟩)⟩
    | fails e events k g rs hfails h =>
      have hne : e ≠ .bankInvalid := by obtain ⟨x, rfl⟩ | rfl := hfails.transport <;> nofun
      have hregs : (s.err.record e none).failOffset = s.err.failOffset ∧ (s.err.record e none).tag = s.err.tag ∧
          (s.err.record e none).raw = s.err.raw := by
        obtain ⟨x, rfl⟩ | rfl := hfails.transport <;> exact ⟨rfl, rfl, rfl⟩
      rw [h, raiseError_bare e ?_ hne]
      · exact ⟨_, events, rfl, rfl, not_send_of_reads hfails.reads, rfl, rfl, rfl, rfl, rfl, rfl, rfl, rfl, rfl, rfl, rfl, hregs.1,
          hregs.2.1, hregs.2.2, nofun, fun _ => .inr (.inl ⟨rfl, e, hfails, rfl⟩)⟩
      · exact hop
    | ends g rs h =>
      rw [h, runOn_afterGeomRead_bare rfl]
      exact ⟨_, _, rfl, rfl, not_send_of_reads (reads_wordEvents s.cfg g.list), rfl, rfl, rfl, rfl, rfl, rfl, rfl, rfl, rfl, hop,
        rfl, rfl, rfl, rfl, nofun, fun _ => .inl ⟨rfl, rfl, rfl, rfl⟩⟩

end Sys2Proof.Machine
end

section
/-! Words that come from the loader as instructions, in the geometry read and elsewhere (30_encoding.md R104, 10_state.md R50). -/

namespace Sys2Proof.Machine

variable {s u : State} {g f : Geom}

/-! ### The end of the geometry read -/

theorem runOn_afterGeomRead_accepted (hw : u.whole = true) (hv : u.geom.decode.valid u.cfg = true) :
    runOn (afterGeomRead u) = finishOk ({ u with phase := .geomCheck }.setBank u.geom.decode) := by
  rw [afterGeomRead, if_pos hw, (TickTo.geomAccepted (s := { u with phase := .geomCheck }) rfl hv).runOn, runOn_finishOk]

theorem runOn_afterGeomRead_rejected (hw : u.whole = true) (hv : u.geom.decode.valid u.cfg = false) :
    runOn (afterGeomRead u) = raiseError false .bankInvalid { u with phase := .geomCheck } := by
  rw [afterGeomRead, if_pos hw, (TickTo.geomRejected (s := { u with phase := .geomCheck }) rfl hv).runOn, runOn_raiseError]

/-! ### A geometry word -/

/-- The state after one geometry word, received with these events (42_probe.md R175). -/
def gotWord (events : List Event) (w : Word) (s : State) : State :=
  { s with
    geom := s.geom.set s.gidx w, gidx := s.gidx + 1, trace := s.trace ++ events
    phase := if s.gidx = 3 then (if s.whole then .geomCheck else .idle) else .geomWait }

theorem takeGeomWord_geomRead (w : Word) (hp : s.phase = .geomRead) :
    takeGeomWord w s = gotWord [.recv (.word w)] w s := by
  simp only [takeGeomWord, takeWord, hp, reduceCtorEq, if_false, Phase.receiving, if_true, answer, answerGeomWord, afterGeomRead,
    Block.State.log, gotWord]
  split <;> rfl

theorem takeGeomWord_geomWait (w : Word) (hp : s.phase = .geomWait) :
    takeGeomWord w s = gotWord [.hs s.cfg.geomTimeoutMs true, .recv (.word w)] w s := by
  have hack : answer ⟨true, 0, default⟩ s = { s.log (.hs s.cfg.geomTimeoutMs true) with phase := .geomRead } := by
    simp only [answer, hp, answerGeomAck, if_true]
  have htake := takeGeomWord_geomRead (s := { s.log (.hs s.cfg.geomTimeoutMs true) with phase := .geomRead }) w rfl
  rw [takeGeomWord, if_neg nofun] at htake
  rw [takeGeomWord, if_pos hp, hack, htake]
  simp only [gotWord, Block.State.log, List.append_assoc, List.singleton_append]
  rfl

theorem takeGeomWord_of_receiving (w : Word) (hp : s.phase.receiving = true) : takeGeomWord w s = takeWord w s := by
  have hne : s.phase ≠ .geomWait := fun h => by simp [h, Phase.receiving] at hp
  rw [takeGeomWord, if_neg hne]

theorem nextGeomWord_elsewhere (w : Word) (hp : s.phase ≠ .geomWait) : nextGeomWord w s = s := if_neg hp

/-- The first word of a row of words, whether its handshake is still awaited or not. -/
theorem takeGeomWord_first (w : Word) (hp : s.phase = .geomWait ∨ s.phase = .geomRead) :
    takeGeomWord w s =
      gotWord ([.hs s.cfg.geomTimeoutMs true, .recv (.word w)].drop (if s.phase = .geomRead then 1 else 0)) w s := by
  obtain hp | hp := hp
  · rw [takeGeomWord_geomWait w hp, hp]
    rfl
  · rw [takeGeomWord_geomRead w hp, hp]
    rfl

/-! ### A row of four words -/

/-- A row of words inside a receive that does not go on to a geometry handshake: its first word alone is taken. -/
theorem exec_respGeometry_first (g0 g1 g2 g3 : Word) (hrecv : s.phase.receiving = true)
    (hnext : (takeWord g0 s).phase ≠ .geomWait) : exec (.respGeometry g0 g1 g2 g3) s = exec (.respDone g0) s := by
  simp only [exec, execRespGeometry, execRespDone, hrecv, or_true, if_true, takeGeomWord_of_receiving g0 hrecv,
    nextGeomWord_elsewhere _ hnext]

theorem takeWord_phase_of_last (w : Word) (h : s.phase = .drainTake ∨ s.phase = .respRead ∨ (s.phase = .geomRead ∧ s.gidx = 3)) :
    s.phase.receiving = true ∧ (takeWord w s).phase ≠ .geomWait := by
  obtain hp | hp | ⟨hp, hk⟩ := h
  · simp [takeWord, hp, Phase.receiving, answer, answerDrain]
  · simp [takeWord, hp, Phase.receiving, answer, answerResponse]
  · have hrecv : s.phase.receiving = true := by rw [hp]; rfl
    refine ⟨hrecv, ?_⟩
    rw [← takeGeomWord_of_receiving w hrecv, takeGeomWord_geomRead w hp]
    cases hw : s.whole <;> simp [gotWord, hk, hw]

/-- Settles O31: outside a receive nothing is seen; inside one the word is the answer of that receive. -/
theorem unreadResponseIsNotSeen : Obligations.UnreadResponseIsNotSeen := by
  intro s code g0 g1 g2 g3
  refine ⟨exec_respDone_unread code, exec_respGeometry_unread g0 g1 g2 g3, fun hp hr => ?_, fun hp hk hr => ?_, fun h => ?_⟩
  · rw [exec_respDone_receiving code (by rw [hp]; rfl),
      (TickTo.drainWord (s := { s with replies := ⟨true, code, default⟩ :: s.replies }) hp rfl rfl).runOn, runOn_waiting rfl ?_]
    exact hr
  · rw [exec_respDone_receiving code (by rw [hp]; rfl),
      (TickTo.geomWord (s := { s with replies := ⟨true, code, default⟩ :: s.replies }) hp rfl rfl hk).runOn, runOn_waiting rfl ?_]
    exact hr
  · obtain ⟨hrecv, hnext⟩ := takeWord_phase_of_last g0 h
    exact exec_respGeometry_first g0 g1 g2 g3 hrecv hnext

/-- A row of four words in the geometry read: as many are received as are missing, each after its own handshake. -/
theorem exec_respGeometry_read (hp : s.phase = .geomWait ∨ s.phase = .geomRead) (hk : s.gidx.toNat < 4)
    (hf : f.list = s.geom.list.take s.gidx.toNat ++ g.list.take (4 - s.gidx.toNat)) :
    exec (.respGeometry g.g0 g.g1 g.g2 g.g3) s = .next (runOn (afterGeomRead { s with
      geom := f, gidx := 4
      trace := s.trace ++
        (wordEvents s.cfg (g.list.take (4 - s.gidx.toNat))).drop (if s.phase = .geomRead then 1 else 0) })) := by
  have hguard : s.phase = .geomWait ∨ s.phase.receiving = true := hp.imp_right fun h => by rw [h]; rfl
  have hend : (if s.whole = true then Phase.geomCheck else Phase.idle) ≠ .geomWait := by split <;> nofun
  have hdrop : ∀ (e : Event) (es rest : List Event), (e :: es).drop (if s.phase = .geomRead then 1 else 0) ++ rest =
      (e :: (es ++ rest)).drop (if s.phase = .geomRead then 1 else 0) := fun e es rest => by split <;> rfl
  have hgidx : s.gidx = 0 ∨ s.gidx = 1 ∨ s.gidx = 2 ∨ s.gidx = 3 := by
    generalize s.gidx = k at hk
    revert hk
    revert k
    decide
  obtain ⟨f0, f1, f2, f3⟩ := f
  simp only [exec, execRespGeometry, if_pos hguard, takeGeomWord_first g.g0 hp]
  rcases hgidx with hgidx | hgidx | hgidx | hgidx
  all_goals
    obtain ⟨rfl, rfl, rfl, rfl⟩ : f0 = _ ∧ f1 = _ ∧ f2 = _ ∧ f3 = _ := by simpa [Geom.list, hgidx] using hf
    simp [nextGeomWord, takeGeomWord_geomWait, gotWord, hgidx, Geom.set, Geom.list, afterGeomRead, hend, hdrop]

/-- Settles O32: the row read to its end, then the checks of a PROBE, or nothing more. -/
theorem geometryWordsEndTheRead : Obligations.GeometryWordsEndTheRead := by
  intro s g f events hp hk hf hevents
  subst hevents
  refine ⟨fun hread hlast => ?_, fun hw hop hv => ?_, fun hw hop hv => ?_, fun hw => ?_⟩
  · obtain ⟨hrecv, hnext⟩ := takeWord_phase_of_last (s := s) g.g0 (.inr (.inr ⟨hread, hlast⟩))
    exact (exec_respGeometry_first g.g0 g.g1 g.g2 g.g3 hrecv hnext).symm
  · rw [exec_respGeometry_read hp hk hf, runOn_afterGeomRead_accepted ?_ ?_]
    · simp only [finishOk, Block.State.setBank, hop, reduceCtorEq, if_false]
    · exact hw
    · exact hv
  · rw [exec_respGeometry_read hp hk hf, runOn_afterGeomRead_rejected ?_ ?_, raiseError_probe .bankInvalid ?_ false]
    · rfl
    · exact hop
    · exact hw
    · exact hv
  · rw [exec_respGeometry_read hp hk hf, runOn_afterGeomRead_bare ?_]
    exact hw

end Sys2Proof.Machine
end

section
/-! PROBE (42_probe.md R170, R181, R182): its run, from the runs of the drain, of its command cycle and of the geometry read. -/

namespace Sys2Proof.Machine

variable {s u t : State}

/-! ### A PROBE in progress -/

/-- What a PROBE has left as it was when its new events are these. -/
structure Probing (s u : State) (new : List Event) : Prop where
  op : u.op = .probe
  bank : u.bank = s.bank
  xfer : u.xfer = s.xfer
  packer : u.packer = s.packer
  cfg : u.cfg = s.cfg
  calls : u.calls = s.calls
  results : u.results = s.results
  err : u.err = { s.err with kind := .none }
  trace : u.trace = s.trace ++ new
  noQuery : ∀ b, .run b ∉ new
  stg : s.stg.wf = true → ∀ j, j ≠ 0 → u.stg.read j = s.stg.read j

/-- Everything that can come of a PROBE: it waits in a call, a part of its run fails, or its geometry is read and checked. -/
inductive ProbeRun (s t : State) : Prop where
  | waits (new : List Event) (hp : Probing s t new) (hph : t.phase ≠ .idle) (hr : t.replies = [])
      (hnew : s.stg.wf = true → ∃ stale, new <+: probeEvents s.cfg stale t.geom)
  | fails (c : Bool) (e : ErrInfo) (new : List Event) (u : State) (hp : Probing s u new) (he : probeError e = true)
      (hnew : s.stg.wf = true → ProbeFails s.cfg u.geom u.gidx.toNat e new) (h : t = raiseError c e u)
  | commits (new : List Event) (u : State) (hp : Probing s u new) (hv : u.geom.decode.valid s.cfg = true)
      (hnew : s.stg.wf = true → ∃ stale, new = probeEvents s.cfg stale u.geom)
      (h : t = finishOk (u.setBank u.geom.decode))

/-! ### No target query -/

theorem not_run_of_reads {new : List Event} (h : ∀ e ∈ new, Reads e) : ∀ b, .run b ∉ new :=
  fun b hmem => (h _ hmem).2 b rfl

theorem not_run_cycleEvents (packet : List Word) (w : Word) : ∀ b, .run b ∉ cycleEvents packet w := by
  simp [cycleEvents]

theorem CycleFails.not_run {p : Params} {tag : Tag} {packet : List Word} {e : ErrInfo} {events : List Event}
    (h : CycleFails p tag packet e events) : ∀ b, .run b ∉ events := by
  obtain ⟨x, -, rfl⟩ | ⟨-, rfl⟩ | ⟨x, -, rfl⟩ | ⟨w, -, -, rfl⟩ := h <;> simp [cycleEvents]

theorem not_run_append {xs ys : List Event} (hx : ∀ b, .run b ∉ xs) (hy : ∀ b, .run b ∉ ys) : ∀ b, .run b ∉ xs ++ ys :=
  fun b h => (List.mem_append.mp h).elim (hx b) (hy b)

/-! ### The three parts -/

theorem afterDrain_probe (hw : u.whole = true) : afterDrain u = startCommand .probe [u.cfg.opcProbe] u := if_pos hw


/-- A PROBE in its drain. -/
theorem probing_drain (ph : Phase) (n : Nat) (rs : List Reply) {new : List Event} (hq : ∀ b, .run b ∉ new) :
    Probing s { beginProbe s.bare with phase := ph, drained := n, replies := rs, trace := s.trace ++ new } new :=
  ⟨rfl, rfl, rfl, rfl, rfl, rfl, rfl, rfl, rfl, hq, fun _ _ _ => rfl⟩

/-- The command of a PROBE, after its drain. -/
def probeCommand (ws : List Word) (rs : List Reply) (s : State) : State :=
  startCommand .probe [s.cfg.opcProbe]
    { beginProbe s.bare with drained := ws.length, replies := rs, trace := s.trace ++ drainEvents ws }

/-- The packet that is sent for it. -/
def probePacket (s : State) : List Word := (s.stg.writeAll s.bank.stgWords 0 [s.cfg.opcProbe]).words 0 1

theorem probePacket_eq (hstg : s.stg.wf = true) : probePacket s = [s.cfg.opcProbe] :=
  memory_words_writeAll [s.cfg.opcProbe] hstg (Nat.le_add_left ..)

theorem probeCommand_read (hstg : s.stg.wf = true) (j : Nat) (hj : j ≠ 0) :
    (s.stg.writeAll s.bank.stgWords 0 [s.cfg.opcProbe]).read j = s.stg.read j :=
  memory_read_writeAll_beyond hstg _ (Nat.one_le_iff_ne_zero.mpr hj)

/-- A PROBE in its command cycle. -/
theorem probing_command (ws : List Word) (rs rs' : List Reply) (ph : Phase) (ps : PState) (w : Word) {new : List Event}
    (hq : ∀ b, .run b ∉ new) :
    Probing s { probeCommand ws rs s with
      phase := ph, pstate := ps, resp := w, replies := rs', trace := s.trace ++ drainEvents ws ++ new } (drainEvents ws ++ new) :=
  ⟨rfl, rfl, rfl, rfl, rfl, rfl, rfl, rfl, List.append_assoc .., not_run_append (not_run_of_reads (reads_drainEvents ws)) hq,
    probeCommand_read⟩

/-- The geometry read of a PROBE, after its command. -/
def probeGeomRead (ws : List Word) (rs rs' : List Reply) (s : State) : State :=
  startGeomRead (acceptedCycle (probePacket s) rs' (probeCommand ws rs s))

/-- A PROBE in its geometry read. -/
theorem probing_geomRead (ws : List Word) (rs rs' rs'' : List Reply) (ph : Phase) (k : BitVec 3) (g : Geom) {new : List Event}
    (hq : ∀ b, .run b ∉ new) :
    Probing s { probeGeomRead ws rs rs' s with
      phase := ph, gidx := k, geom := g, replies := rs''
      trace := s.trace ++ drainEvents ws ++ cycleEvents (probePacket s) s.cfg.rspDone ++ new }
      (drainEvents ws ++ cycleEvents (probePacket s) s.cfg.rspDone ++ new) :=
  ⟨rfl, rfl, rfl, rfl, rfl, rfl, rfl, rfl, by simp only [List.append_assoc],
    not_run_append (not_run_append (not_run_of_reads (reads_drainEvents ws)) (not_run_cycleEvents _ _)) hq, probeCommand_read⟩

theorem probeRun_geomRead (ws : List Word) (rs rs' : List Reply) : ProbeRun s (runOn (probeGeomRead ws rs rs' s)) := by
  cases geomRun (u := probeGeomRead ws rs rs' s) rfl rfl with
  | waits ph k g new hph hnew h =>
    have hq : ∀ b, .run b ∉ new := fun b hm => not_run_of_reads (reads_wordEvents s.cfg g.list) b (hnew.subset hm)
    rw [h]
    refine .waits _ (probing_geomRead ws rs rs' _ ph k g hq) hph rfl fun hs => ⟨ws, ?_⟩
    rw [probePacket_eq hs]
    exact (List.prefix_append_right_inj _).mpr hnew
  | fails e events k g rs'' hfails h =>
    have he : probeError e = true := by obtain ⟨x, rfl⟩ | rfl := hfails.transport <;> rfl
    refine .fails false e _ _ (probing_geomRead ws rs rs' rs'' .geomWait k g (not_run_of_reads hfails.reads)) he (fun hs => ?_) h
    rw [probePacket_eq hs]
    exact .inr (.inr (.inl ⟨ws, events, hfails, rfl⟩))
  | ends g rs'' h =>
    have hp := probing_geomRead (s := s) ws rs rs' rs'' .geomCheck 4 g (not_run_of_reads (reads_wordEvents s.cfg g.list))
    have hevents : s.stg.wf = true →
        drainEvents ws ++ cycleEvents (probePacket s) s.cfg.rspDone ++ wordEvents s.cfg g.list = probeEvents s.cfg ws g :=
      fun hs => by rw [probePacket_eq hs]; rfl
    cases hv : g.decode.valid s.cfg with
    | true =>
      rw [runOn_afterGeomRead_accepted ?_ ?_] at h
      · exact .commits _ _ hp hv (fun hs => ⟨ws, hevents hs⟩) h
      · rfl
      · exact hv
    | false =>
      rw [runOn_afterGeomRead_rejected ?_ ?_] at h
      · exact .fails false _ _ _ hp rfl (fun hs => .inr (.inr (.inr ⟨ws, rfl, hv, hevents hs⟩))) h
      · rfl
      · exact hv

theorem probeRun_command (ws : List Word) (rs : List Reply) : ProbeRun s (runOn (probeCommand ws rs s)) := by
  cases cycleRun (u := probeCommand ws rs s) (packet := probePacket s) rfl rfl with
  | waits ph ps new hph hnew h =>
    have hq : ∀ b, .run b ∉ new := fun b hm => by simpa using hnew.subset hm
    have hne : ph ≠ .idle := by obtain rfl | rfl | rfl := hph <;> nofun
    rw [h]
    refine .waits _ (probing_command ws rs [] ph ps s.resp hq) hne rfl fun hs => ⟨ws, ?_⟩
    rw [probePacket_eq hs] at hnew
    rw [probeEvents, List.append_assoc]
    exact (List.prefix_append_right_inj _).mpr (hnew.trans ⟨.recv (.word s.cfg.rspDone) :: geomEvents s.cfg _, rfl⟩)
  | fails e events w rs' hfails h =>
    have he : probeError e = true := by obtain ⟨x, rfl, -⟩ | ⟨rfl, -⟩ | ⟨x, rfl, -⟩ | ⟨w, -, rfl, -⟩ := hfails <;> rfl
    have hnew : s.stg.wf = true → ProbeFails s.cfg s.geom s.gidx.toNat e (drainEvents ws ++ events) := fun hs => by
      rw [probePacket_eq hs] at hfails
      exact .inr (.inl ⟨ws, events, hfails, rfl⟩)
    have hp := probing_command (s := s) ws rs rs' (.send 1) .idle w hfails.not_run
    exact .fails true e _ _ hp he hnew h
  | accepted rs' h =>
    rw [afterCycle_probe rfl rfl] at h
    rw [h]
    exact probeRun_geomRead ws rs rs'

theorem probeRun (s : State) : ProbeRun s (runOn (beginProbe s.bare)) := by
  cases drainRun (u := beginProbe s.bare) rfl rfl with
  | waits ph n ws new hph hnew h =>
    have hq : ∀ b, .run b ∉ new := fun b hm => not_run_of_reads (reads_drainEvents ws) b (hnew.subset hm)
    rw [h]
    refine .waits _ (probing_drain ph n [] hq) hph rfl fun _ => ⟨ws, hnew.trans ?_⟩
    rw [probeEvents, List.append_assoc]
    exact List.prefix_append ..
  | fails e events n rs hfails h =>
    have he : probeError e = true := by obtain ⟨x, rfl⟩ := hfails.transport; rfl
    exact .fails false e _ _ (probing_drain .drainPoll n rs (not_run_of_reads hfails.reads)) he (fun _ => .inl hfails) h
  | ends ws rs h =>
    rw [h]
    exact probeRun_command ws rs

/-! ### The statements -/

/-- Settles O35: the three parts, each to its end. -/
theorem probeCompletes : Obligations.ProbeCompletes := by
  intro s polls none' c h0 w0 h1 w1 h2 w2 h3 w3 rest he hstg hgood hfit hnone hc hwords hr hv
  obtain ⟨hop, hphase⟩ := (engaged_eq_false_iff s).mp he
  rw [List.append_assoc] at hr
  rw [exec_hostProbe he, runOn_drain_ends (u := beginProbe s.bare) rfl rfl hgood hfit hnone hr,
    afterDrain_probe rfl, runOn_send_accepted (packet := [s.cfg.opcProbe]) (n := 1) (c := c) ?_ ?_ ?_ ?_]
  · rw [afterCycle_probe rfl rfl, runOn_geomRead_ends (rs := rest) rfl rfl hwords ?_, runOn_afterGeomRead_accepted ?_ ?_]
    · simp only [finishOk, Block.State.setBank, acceptedCycle, startCommand, beginCycle, beginProbe, startDrain, startGeomRead, accept,
        reduceCtorEq, if_false, hop, hphase, List.append_assoc, List.cons_append, List.nil_append]
    · rfl
    · exact hv
    · rfl
  · rfl
  · exact probePacket_eq hstg
  · rfl
  · exact hc

/-- Settles O36: each run of a PROBE, by the result it delivers. -/
theorem probeIsAllOrNothing : Obligations.ProbeIsAllOrNothing := by
  intro s he
  rw [exec_hostProbe he]
  cases probeRun s with
  | waits new hp hph hr hnew =>
    refine ⟨_, new, rfl, hp.trace, fun hs => ⟨fun h => ?_, fun e o h => ?_, fun _ => hnew hs⟩,
      .inr (.inr ⟨hp.op, hp.results, hp.bank, hph, hr⟩)⟩
    · simp [hp.results] at h
    · simp [hp.results] at h
  | fails c e new u hp he hnew h =>
    have hresults : (raiseError c e u).results = s.results ++ [.err e none] := by
      rw [raiseError_probe e hp.op, hp.results]
    have herr : (raiseError c e u).err = s.err.record e none := by
      rw [raiseError_probe e hp.op, hp.err]
      rfl
    rw [h]
    refine ⟨_, new, rfl, hp.trace, fun hs => ⟨fun h => ?_, fun e' o h => ?_, fun h => ?_⟩,
      .inr (.inl ⟨e, rfl, hresults, he, ?_, by rw [herr]; rfl⟩)⟩
    · rw [hresults] at h
      simp at h
    · rw [hresults] at h
      obtain ⟨rfl, rfl⟩ : e = e' ∧ none = o := by simpa using h
      exact ⟨hnew hs, herr⟩
    · rw [hresults] at h
      simp at h
    · rw [raiseError_probe e hp.op]
  | commits new u hp hv hnew h =>
    have hresults : (finishOk (u.setBank u.geom.decode)).results = s.results ++ [.ok] := by
      rw [finishOk_results, if_neg (by simp [hp.op])]
      exact congrArg (· ++ [.ok]) hp.results
    rw [h]
    refine ⟨_, new, rfl, hp.trace, fun hs => ⟨fun _ => hnew hs, fun e o h => ?_, fun h => ?_⟩,
      .inl ⟨rfl, hresults, bankSound_decode hv, rfl⟩⟩
    · rw [hresults] at h
      simp at h
    · rw [hresults] at h
      simp at h

/-- Settles O38: what a PROBE in progress keeps, and what its end writes beside. -/
theorem probeFrame : Obligations.ProbeFrame := by
  intro s t hstg ht
  obtain ⟨-, u, hu, rfl⟩ := exec_next ht nofun nofun
  cases hu
  case command hc _ => cases hc
  cases probeRun s with
  | waits new hp hph hr hnew =>
    exact ⟨hp.xfer, hp.packer, hp.cfg, hp.calls, by rw [hp.err], fun j hj _ => hp.stg hstg j hj, new, hp.trace, hp.noQuery⟩
  | fails c e new u hp he hnew h =>
    rw [h, raiseError_probe e hp.op]
    refine ⟨hp.xfer, hp.packer, hp.cfg, hp.calls, by rw [hp.err]; rfl, fun j hj hlt => ?_, new, hp.trace, hp.noQuery⟩
    exact (memory_read_fit ..).trans ((if_pos hlt).trans (hp.stg hstg j hj))
  | commits new u hp hv hnew h =>
    rw [h]
    refine ⟨hp.xfer, hp.packer, hp.cfg, hp.calls, ?_, fun j hj hlt => ?_, new, hp.trace, hp.noQuery⟩
    · exact congrArg (·.failOffset) hp.err
    · exact (memory_read_fit ..).trans ((if_pos hlt).trans (hp.stg hstg j hj))

end Sys2Proof.Machine
end

section
/-! What one tick leaves unchanged, by the operation in flight (10_state.md R33, R41, R48). -/

namespace Sys2Proof.Machine

variable {s t : State}

/-! ### What an operation's position says -/

theorem ProbePart.op (h : ProbePart s) : s.op ≠ .erase ∧ s.op ≠ .write := by
  obtain ⟨-, hop⟩ | ⟨-, hop⟩ := h <;> simp [hop]

/-- Only a PROBE or a bare read stands in the drain, in the geometry read and at its checks. -/
theorem SeqOk.op_of_geom (hs : SeqOk s) (h : s.phase = .geomWait ∨ s.phase = .geomRead) : s.op ≠ .erase ∧ s.op ≠ .write :=
  ((seqOk_geom h).mp hs).1.op

theorem SeqOk.op_of_drain (hs : SeqOk s) (h : s.phase = .drainPoll ∨ s.phase = .drainTake) : s.op ≠ .erase ∧ s.op ≠ .write :=
  ((seqOk_drain h).mp hs).1.op

/-! ### The registers -/

/-- The transfer and packer registers are WRITE's (10_state.md R40, R42). -/
theorem TickTo.xfer_kept (h : TickTo s t) (hs : SeqOk s) (hop : s.op ≠ .write) : t.xfer = s.xfer ∧ t.packer = s.packer := by
  cases h
  case runWrite hp hr hg ho => exact absurd ho hop
  case doneWrite hp hd hw ho => exact absurd ho hop
  case chunkNext hp hn => exact absurd ((seqOk_chunk hp).mp hs).2.1 hop
  all_goals exact ⟨rfl, rfl⟩

/-- The geometry words are PROBE's, or a bare read's (10_state.md R39). -/
theorem TickTo.geom_kept (h : TickTo s t) (hs : SeqOk s) (hop : s.op = .erase ∨ s.op = .write) :
    t.geom = s.geom ∧ t.gidx = s.gidx := by
  have hread : ¬ (s.op ≠ .erase ∧ s.op ≠ .write) := fun ⟨he, hw⟩ => hop.elim he hw
  cases h
  case doneProbe hp hd hw ho => exact absurd ⟨by simp [ho], by simp [ho]⟩ hread
  case geomWord hp hr hg hi => exact absurd (hs.op_of_geom (.inr hp)) hread
  case geomLast hp hr hg hi hw => exact absurd (hs.op_of_geom (.inr hp)) hread
  case geomLastBare hp hr hg hi hw => exact absurd (hs.op_of_geom (.inr hp)) hread
  all_goals exact ⟨rfl, rfl⟩

/-! ### The staging buffer -/

/-- Outside an operation an error leaves `STG` (log entry 8). -/
theorem raiseError_stg_of_none (c : Bool) {e : ErrInfo} {u : State} (hop : u.op = .none) (he : e ≠ .bankInvalid) :
    (raiseError c e u).stg = u.stg := by
  rw [raiseError_stg, if_neg (by simp [hop, he])]

/-- A part running alone writes no word of `STG`. -/
theorem TickTo.stg_of_none (h : TickTo s t) (hs : SeqOk s) (hop : s.op = .none) : t.stg = s.stg := by
  cases h
  case runErase hp hr hg ho => simp [hop] at ho
  case pollEnd hp hr hg hw => exact absurd (((seqOk_drain (.inl hp)).mp hs).1.whole hw) (by simp [hop])
  case geomAccepted hp hv => exact absurd ((seqOk_geomCheck hp).mp hs).2.1 (by simp [hop])
  case geomRejected hp hv => exact absurd ((seqOk_geomCheck hp).mp hs).2.1 (by simp [hop])
  case chunkNext hp hn => exact absurd ((seqOk_chunk hp).mp hs).2.1 (by simp [hop])
  case runDown | pollOver | drainFail | sendFail | noAck | responseFail | notDone | geomTimeout | geomFail =>
    exact raiseError_stg_of_none _ hop nofun
  all_goals rfl

/-- The words of `STG` that the operation in flight will not write. -/
def Kept (s : State) (j : Nat) : Prop :=
  (s.op = .probe → j ≠ 0) ∧ (s.op = .erase → 3 ≤ j) ∧
  (s.op = .write → s.bank.stgWords ≤ j ∨ (BankSound s.bank ∧ BeyondPackets s.cfg s.bank s.chunksToBuild j))

/-- An error leaves every word that `STG` then has (10_state.md R41). -/
theorem raiseError_read (c : Bool) {e : ErrInfo} {u : State} {j : Nat} (he : e = .bankInvalid → u.op = .probe)
    (hj : u.op = .probe → j < (raiseError c e u).bank.stgWords) : (raiseError c e u).stg.read j = u.stg.read j := by
  have hkind : (u.op = .probe ∨ e.kind = .bankInvalid) → u.op = .probe := fun h => h.elim id fun h => he ((kind_eq_bankInvalid e).mp h)
  rw [raiseError_bank] at hj
  rw [raiseError_stg]
  split
  · next h =>
    rw [if_pos h] at hj
    rw [memory_read_fit, if_pos (hj (hkind h))]
  · rfl

/-- The next chunk of a WRITE is the first of those it has still to build. -/
theorem chunksToBuild_chunk {u : State} (hp : u.phase = .chunk) : u.chunksToBuild = chunksOf u.bank (payloadLeft u) u.xfer.curOffset := by
  rw [Block.State.chunksToBuild, if_neg (by simp [hp]), if_pos hp]
  rfl

theorem chunksToBuild_cycle {u : State} (hp : u.phase.inCycle = true) :
    u.chunksToBuild = chunksOf u.bank (u.args.payload.drop (u.xfer.payPos + u.xfer.runLen).toNat) (u.xfer.curOffset + u.xfer.runLen) := by
  have hrun : u.phase ≠ .runCheck := fun h => by simp [h, Phase.inCycle] at hp
  have hchunk : u.phase ≠ .chunk := fun h => by simp [h, Phase.inCycle] at hp
  rw [Block.State.chunksToBuild, if_neg hrun, if_neg hchunk]

/-- The chunk built is the first of the payload's rest, and what follows it is the rest of that (44_write.md R203, R208). -/
theorem payloadLeft_after {u : State} (hb : BankSound u.bank) (hp : Progress u.args u.xfer) (hn : u.xfer.remaining ≠ 0) :
    u.args.payload.drop (u.xfer.payPos + builtLen u).toNat = afterChunk u.bank (payloadLeft u) u.xfer.curOffset := by
  have hle : (builtLen u).toNat ≤ u.xfer.remaining.toNat := (chunkSound_build hb (x := u.xfer) hn).remains
  have hlen := hp.length
  have hpos := hp.position
  have hsum : (u.xfer.payPos + builtLen u).toNat = u.xfer.payPos.toNat + (builtLen u).toNat := by
    rw [BitVec.toNat_add, Nat.mod_eq_of_lt (by omega)]
  rw [hsum, ← List.drop_drop, afterChunk, ← builtLen_eq hp]
  rfl

theorem nextOffset_eq {u : State} (hp : Progress u.args u.xfer) :
    u.xfer.curOffset + builtLen u = nextOffset u.bank (payloadLeft u) u.xfer.curOffset := by
  rw [nextOffset, ← builtLen_eq hp]

/-- On a sound bank the WRITE is past the chunk it builds. -/
theorem chunksToBuild_buildChunk {u : State} (hb : BankSound u.bank) (hp : u.phase = .chunk) (hprogress : Progress u.args u.xfer)
    (hn : u.xfer.remaining ≠ 0) :
    u.chunksToBuild = (u.xfer.curOffset, payloadLeft u) :: (buildChunk u).chunksToBuild := by
  rw [chunksToBuild_chunk hp, chunksOf_cons hb hprogress.length_payloadLeft _ (hprogress.payloadLeft_ne_nil hn),
    chunksToBuild_cycle (by rw [buildChunk_phase]; rfl), buildChunk_xfer, ← payloadLeft_after hb hprogress hn, ← nextOffset_eq hprogress]
  rfl

/-- A tick leaves every word of `STG` that the operation will not write, as far as `STG` then has words. -/
theorem TickTo.read_kept (h : TickTo s t) (hs : SeqOk s) (hw : BankSound s.bank → WriteOk s) (hstg : s.stg.wf = true) {j : Nat}
    (hk : Kept s j) (hj : t.phase = .idle → s.op = .probe → j < t.bank.stgWords) : t.stg.read j = s.stg.read j := by
  obtain ⟨hprobe, herase, hwrite⟩ := hk
  cases h
  case runErase hp hr hg ho =>
    rw [startCommand_stg]
    exact memory_read_writeAll_beyond hstg _ ((length_eraseCommand_le ..).trans (herase ho))
  case pollEnd hp hr hg hwhole =>
    have hop : s.op = .probe := ((seqOk_drain (.inl hp)).mp hs).1.whole hwhole
    rw [startCommand_stg]
    exact memory_read_writeAll_beyond hstg _ (Nat.one_le_iff_ne_zero.mpr (hprobe hop))
  case chunkNext hp hn =>
    rw [buildChunk_stg]
    refine builtStg_read_beyond hstg ((hwrite ((seqOk_chunk hp).mp hs).2.1).imp_right fun ⟨hb, hbeyond⟩ => ?_)
    obtain ⟨-, hprogress⟩ := (writeOk_chunk hp).mp (hw hb)
    rw [chunksToBuild_buildChunk hb hp hprogress hn] at hbeyond
    have hlen := hbeyond _ (List.mem_cons_self ..)
    rwa [length_chunkPacket, ← builtData_eq hprogress] at hlen
  case geomAccepted hp hv =>
    rw [finishOk_stg, setBank_stg, memory_read_fit]
    exact if_pos (hj rfl ((seqOk_geomCheck hp).mp hs).2.1)
  case geomRejected hp hv => exact raiseError_read _ (fun _ => ((seqOk_geomCheck hp).mp hs).2.1) (hj rfl)
  case runDown | pollOver | drainFail | sendFail | noAck | responseFail | notDone | geomTimeout | geomFail =>
    exact raiseError_read _ nofun (hj rfl)
  all_goals rfl

/-- While a WRITE goes on, it has never more chunks to build than before. -/
theorem TickTo.chunksToBuild (h : TickTo s t) (hs : SeqOk s) (hw : WriteOk s) (hb : BankSound s.bank) (hop : s.op = .write)
    (hbusy : t.phase ≠ .idle) : ∀ ch ∈ t.chunksToBuild, ch ∈ s.chunksToBuild := by
  have hcycle : s.phase.inCycle = true → t.phase.inCycle = true → t.bank = s.bank → t.args = s.args → t.xfer = s.xfer →
      ∀ ch ∈ t.chunksToBuild, ch ∈ s.chunksToBuild := by
    intro hps hpt hbank hargs hxfer ch hch
    rwa [chunksToBuild_cycle hpt, hbank, hargs, hxfer, ← chunksToBuild_cycle hps] at hch
  cases h
  case runWrite hp hr hg ho =>
    intro ch hch
    rw [chunksToBuild_chunk rfl] at hch
    rw [Block.State.chunksToBuild, if_pos hp]
    exact hch
  case doneWrite hp hd hwhole ho =>
    intro ch hch
    rw [chunksToBuild_chunk rfl] at hch
    rw [chunksToBuild_cycle (by rw [hp]; rfl)]
    exact hch
  case chunkNext hp hn =>
    obtain ⟨-, hprogress⟩ := (writeOk_chunk hp).mp hw
    rw [chunksToBuild_buildChunk hb hp hprogress hn]
    exact fun ch hch => List.mem_cons_of_mem _ hch
  case sendOk hp hr hg => exact hcycle (by rw [hp]; rfl) rfl rfl rfl rfl
  case handshake hp => exact hcycle (by rw [hp]; rfl) rfl rfl rfl rfl
  case ack hp hr hg => exact hcycle (by rw [hp]; rfl) rfl rfl rfl rfl
  case response hp hr hg => exact hcycle (by rw [hp]; rfl) rfl rfl rfl rfl
  case runErase hp hr hg ho => simp [hop] at ho
  case doneProbe hp hd hwhole ho => simp [hop] at ho
  case pollWord hp hr hg hx => exact absurd hop (hs.op_of_drain (.inl hp)).2
  case pollEnd hp hr hg hwhole => exact absurd hop (hs.op_of_drain (.inl hp)).2
  case drainWord hp hr hg => exact absurd hop (hs.op_of_drain (.inr hp)).2
  case geomAck hp hr hg => exact absurd hop (hs.op_of_geom (.inl hp)).2
  case geomKeep hp hr hg ht => exact absurd hop (hs.op_of_geom (.inl hp)).2
  case geomWord hp hr hg hi => exact absurd hop (hs.op_of_geom (.inr hp)).2
  case geomLast hp hr hg hi hwhole => exact absurd hop (hs.op_of_geom (.inr hp)).2
  all_goals exact absurd rfl hbusy

/-- While the operation goes on, what it will not write it will not write later either. -/
theorem TickTo.kept (h : TickTo s t) (hs : SeqOk s) (hw : BankSound s.bank → WriteOk s) (hbusy : t.phase ≠ .idle)
    (hop : t.op = s.op) {j : Nat} (hk : Kept s j) : Kept t j := by
  obtain ⟨hprobe, herase, hwrite⟩ := hk
  have hbank : t.bank = s.bank := h.bank_kept.resolve_right hbusy
  refine ⟨fun h => hprobe (hop ▸ h), fun h => herase (hop ▸ h), fun hopt => ?_⟩
  have hops : s.op = .write := hop ▸ hopt
  rw [hbank, h.cfg]
  exact (hwrite hops).imp_right fun ⟨hb, hbeyond⟩ =>
    ⟨hb, fun ch hch => hbeyond ch (h.chunksToBuild hs (hw hb) hb hops hbusy ch hch)⟩

end Sys2Proof.Machine
end

section
/-! What a run does with something in flight (20_memory.md R81, 60_exceptions.md R236): it waits, or it ends, and its last event
says how. -/

namespace Sys2Proof.Machine

variable {s t u : State} {new : List Event}

/-! ### What the last event says at an internal computation -/

/-- What the events so far say where the next tick is internal, or the first gate of a WRITE. -/
structure Seen (new : List Event) (t : State) : Prop where
  runCheck : t.phase = .runCheck → new = [] ∧ t.args.payload.length < 2 ^ 32
  respCheck : t.phase = .respCheck → new = [] ∨ new.getLast? = some (.recv (.word t.resp))
  geomCheck : t.phase = .geomCheck → new = [] ∨ new.getLast? = some (.recv (.word t.geom.g3))
  chunk : t.phase = .chunk → new = [] ∨
    (new = [.run true] ∧ t.xfer.remaining = BitVec.ofNat 32 t.args.payload.length ∧ t.args.payload.length < 2 ^ 32) ∨
    new.getLast? = some (.recv (.word t.cfg.rspDone))

theorem seen_start (hw : WriteOk s) : Seen [] s :=
  ⟨fun hp => ⟨rfl, ((writeOk_runCheck hp).mp hw).2⟩, fun _ => .inl rfl, fun _ => .inl rfl, fun _ => .inl rfl⟩

/-! ### How what is in flight stands -/

/-- How a run stands whose operation, bank, error registers and results were these at its start: it goes on, a bare part has ended,
or an operation has ended with its result (20_memory.md R81, 60_exceptions.md R236). -/
inductive Stands (s : State) (new : List Event) (t : State) : Prop where
  | goesOn (hp : t.phase ≠ .idle) (hop : t.op = s.op) (hb : t.bank = s.bank) (he : t.err = s.err) (hr : t.results = s.results)
      (hseen : Seen new t)
  | bare (hp : t.phase = .idle) (hop : t.op = .none) (hs : s.op = .none) (hb : t.bank = s.bank) (hr : t.results = s.results)
      (he : t.err = s.err ∨ ∃ e, t.err = s.err.record e none)
  | ok (hp : t.phase = .idle) (hop : t.op = .none) (hs : s.op ≠ .none) (hb : s.op ≠ .probe → t.bank = s.bank)
      (hr : t.results = s.results ++ [.ok]) (he : t.err = { s.err with kind := .none }) (hseen : OkSeen s.op t new)
  | error (e : ErrInfo) (o : Option Word) (hp : t.phase = .idle) (hop : t.op = .none) (hs : s.op ≠ .none)
      (hb : s.op ≠ .probe → t.bank = s.bank) (hr : t.results = s.results ++ [.err e o]) (he : t.err = s.err.record e o)
      (hk : opError s.op e = true) (hseen : ErrorSeen t new e)
      (ho : o = if s.op = .write ∧ e ≠ .targetNotRunning then some t.xfer.curOffset else none)

/-- An error, taken by an operation or outside of one. -/
theorem stands_raiseError {c : Bool} {e : ErrInfo} {u : State} (hop : u.op = s.op) (hbank : u.bank = s.bank) (herr : u.err = s.err)
    (hres : u.results = s.results) (hk : s.op ≠ .none → opError s.op e = true) (hinv : e = .bankInvalid → s.op = .probe)
    (hcycle : s.op = .write → (c = true ↔ e ≠ .targetNotRunning)) (hseen : ErrorSeen (raiseError c e u) new e) :
    Stands s new (raiseError c e u) := by
  have hkept : s.op ≠ .probe → (raiseError c e u).bank = s.bank := fun hprobe => by
    rw [raiseError_bank, if_neg, hbank]
    rw [kind_eq_bankInvalid, hop]
    exact fun h => h.elim hprobe fun h => hprobe (hinv h)
  by_cases hnone : s.op = .none
  · refine .bare rfl rfl hnone (hkept (by simp [hnone])) ?_ (.inr ⟨e, ?_⟩)
    · rw [raiseError_results, if_pos (hop.trans hnone), hres]
    · rw [raiseError_err, if_neg (by simp [hop, hnone]), herr]
  · refine .error e _ rfl rfl hnone hkept ?_ (by rw [raiseError_err, herr]) (hk hnone) hseen ?_
    · rw [raiseError_results, if_neg (by rwa [hop]), hres]
    · rw [hop]
      refine if_congr ⟨fun ⟨hc, hw⟩ => ⟨hw, (hcycle hw).mp hc⟩, fun ⟨hw, he⟩ => ⟨(hcycle hw).mpr he, hw⟩⟩ rfl rfl

/-- An error inside a command cycle. -/
theorem stands_cycleError {e : ErrInfo} {u : State} (hc : CycleOf s) (hop : u.op = s.op) (hbank : u.bank = s.bank)
    (herr : u.err = s.err) (hres : u.results = s.results)
    (hk : (∃ x, e = .transportError x) ∨ e = .transportTimeout ∨ ∃ w, e = .protocolFailure s.tag w)
    (hseen : ErrorSeen (raiseError true e u) new e) : Stands s new (raiseError true e u) := by
  refine stands_raiseError hop hbank herr hres (fun hne => ?_) ?_ (fun _ => ⟨fun _ => ?_, fun _ => rfl⟩) hseen
  · obtain ⟨-, hnone⟩ | ⟨-, hs, ht⟩ | ⟨-, hs, ht⟩ | ⟨-, hs, ht⟩ := hc
    · exact absurd hnone hne
    · obtain ⟨x, rfl⟩ | rfl | ⟨w, rfl⟩ := hk <;> simp [hs, ht, opError, probeError]
    · obtain ⟨x, rfl⟩ | rfl | ⟨w, rfl⟩ := hk <;> simp [hs, ht, opError, eraseError]
    · obtain ⟨x, rfl⟩ | rfl | ⟨w, rfl⟩ := hk <;> simp [hs, ht, opError, writeError]
  · obtain ⟨x, rfl⟩ | rfl | ⟨w, rfl⟩ := hk <;> nofun
  · obtain ⟨x, rfl⟩ | rfl | ⟨w, rfl⟩ := hk <;> nofun

/-- An error in the drain or in the geometry read. -/
theorem stands_readError {e : ErrInfo} {u : State} (hpart : ProbePart s) (hop : u.op = s.op) (hbank : u.bank = s.bank)
    (herr : u.err = s.err) (hres : u.results = s.results) (hk : (∃ x, e = .transportError x) ∨ e = .transportTimeout)
    (hseen : ErrorSeen (raiseError false e u) new e) : Stands s new (raiseError false e u) := by
  refine stands_raiseError hop hbank herr hres (fun hne => ?_) ?_ (fun hw => absurd hw hpart.op.2) hseen
  · obtain ⟨-, hs⟩ | ⟨-, hs⟩ := hpart
    · obtain ⟨x, rfl⟩ | rfl := hk <;> simp [hs, opError, probeError]
    · exact absurd hs hne
  · obtain ⟨x, rfl⟩ | rfl := hk <;> nofun

theorem stands_finishOk {u : State} (hop : u.op = s.op) (hne : s.op ≠ .none) (hbank : s.op ≠ .probe → u.bank = s.bank)
    (herr : u.err = s.err) (hres : u.results = s.results) (hseen : OkSeen s.op (finishOk u) new) : Stands s new (finishOk u) := by
  refine .ok rfl rfl hne hbank ?_ ?_ hseen
  · rw [finishOk_results, if_neg (by rwa [hop]), hres]
  · rw [← herr]
    rfl

/-! ### One tick -/

/-- One more event, or none. -/
theorem getLast?_event (new : List Event) (e : Event) : (new ++ [e]).getLast? = some e := List.getLast?_concat ..

/-- A tick of what is in flight, with the event it adds. -/
theorem TickTo.stands (h : TickTo s t) (hs : SeqOk s) (hseen : Seen new s) :
    ∃ ev, t.trace = s.trace ++ ev ∧ Stands s (new ++ ev) t := by
  cases h
  case runErase hp hr hg ho =>
    exact ⟨[.run true], rfl, .goesOn nofun rfl rfl rfl rfl ⟨nofun, nofun, nofun, nofun⟩⟩
  case runWrite hp hr hg ho =>
    obtain ⟨rfl, hlen⟩ := hseen.runCheck hp
    exact ⟨[.run true], rfl, .goesOn nofun rfl rfl rfl rfl ⟨nofun, nofun, nofun, fun _ => .inr (.inl ⟨rfl, rfl, hlen⟩)⟩⟩
  case runBare hp hr hg ho =>
    obtain ⟨-, hop, -⟩ := (seqOk_runCheck hp).mp hs
    obtain ho | ho := ho <;> simp [ho] at hop
  case runDown hp hr hg =>
    obtain ⟨-, hop, -⟩ := (seqOk_runCheck hp).mp hs
    refine ⟨[.run false], rfl, stands_raiseError rfl rfl rfl rfl (fun _ => ?_) nofun (by simp) (getLast?_event ..)⟩
    obtain hop | hop := hop <;> rw [hop] <;> rfl
  case pollOver hp hr hg hx =>
    have hlimit : s.cfg.drainLimit ≠ none := fun h => by simp [drainExceeded, h] at hx
    exact ⟨[.rxp true], rfl, stands_readError ((seqOk_drain (.inl hp)).mp hs).1 rfl rfl rfl rfl (.inl ⟨_, rfl⟩)
      (.inr (.inr ⟨getLast?_event .., hlimit, _, rfl⟩))⟩
  case pollWord hp hr hg hx =>
    exact ⟨[.rxp true], rfl, .goesOn nofun rfl rfl rfl rfl ⟨nofun, nofun, nofun, nofun⟩⟩
  case pollEnd hp hr hg hw =>
    exact ⟨[.rxp false], rfl, .goesOn nofun rfl rfl rfl rfl ⟨nofun, nofun, nofun, nofun⟩⟩
  case pollEndBare hp hr hg hw =>
    have hop := ((seqOk_drain (.inl hp)).mp hs).1.bare hw
    exact ⟨[.rxp false], rfl, .bare rfl hop hop rfl rfl (.inl rfl)⟩
  case drainWord r rs hp hr hg =>
    exact ⟨[.recv (.word r.word)], rfl, .goesOn nofun rfl rfl rfl rfl ⟨nofun, nofun, nofun, nofun⟩⟩
  case drainFail r rs hp hr hg =>
    exact ⟨[.recv (.err r.err)], rfl, stands_readError ((seqOk_drain (.inr hp)).mp hs).1 rfl rfl rfl rfl (.inl ⟨_, rfl⟩)
      (.inr (.inl (getLast?_event ..)))⟩
  case sendOk n r rs hp hr hg =>
    exact ⟨_, rfl, .goesOn nofun rfl rfl rfl rfl ⟨nofun, nofun, nofun, nofun⟩⟩
  case sendFail n r rs hp hr hg =>
    exact ⟨_, rfl, stands_cycleError ((seqOk_send hp).mp hs).1 rfl rfl rfl rfl (.inl ⟨_, rfl⟩) (.inl ⟨_, getLast?_event ..⟩)⟩
  case handshake hp =>
    exact ⟨[], (List.append_nil _).symm, .goesOn nofun rfl rfl rfl rfl ⟨nofun, nofun, nofun, nofun⟩⟩
  case ack hp hr hg => exact ⟨_, rfl, .goesOn nofun rfl rfl rfl rfl ⟨nofun, nofun, nofun, nofun⟩⟩
  case noAck hp hr hg =>
    exact ⟨_, rfl, stands_cycleError ((seqOk_ack (.inl hp)).mp hs).1 rfl rfl rfl rfl (.inr (.inl rfl))
      ⟨_, (by decide), getLast?_event ..⟩⟩
  case response hp hr hg =>
    exact ⟨_, rfl, .goesOn nofun rfl rfl rfl rfl ⟨nofun, fun _ => .inr (getLast?_event ..), nofun, nofun⟩⟩
  case responseFail hp hr hg =>
    exact ⟨_, rfl, stands_cycleError ((seqOk_ack (.inr hp)).mp hs).1 rfl rfl rfl rfl (.inl ⟨_, rfl⟩)
      (.inr (.inl (getLast?_event ..)))⟩
  case doneBare hp hd hw =>
    obtain ⟨hop, -⟩ := ((seqOk_respCheck hp).mp hs).1.bare hw
    exact ⟨[], (List.append_nil _).symm, .bare rfl hop hop rfl rfl (.inl rfl)⟩
  case doneProbe hp hd hw ho =>
    exact ⟨[], (List.append_nil _).symm, .goesOn nofun rfl rfl rfl rfl ⟨nofun, nofun, nofun, nofun⟩⟩
  case doneErase hp hd hw ho =>
    refine ⟨[], (List.append_nil _).symm, stands_finishOk rfl (by simp [ho]) (fun _ => rfl) rfl rfl ?_⟩
    rw [ho, List.append_nil]
    exact ⟨hd, hd ▸ hseen.respCheck hp⟩
  case doneWrite hp hd hw ho =>
    refine ⟨[], (List.append_nil _).symm, .goesOn nofun rfl rfl rfl rfl ⟨nofun, nofun, nofun, fun _ => ?_⟩⟩
    rw [List.append_nil]
    exact (hd ▸ hseen.respCheck hp).imp_right .inr
  case notDone hp hd =>
    refine ⟨[], (List.append_nil _).symm, stands_cycleError ((seqOk_respCheck hp).mp hs).1 rfl rfl rfl rfl (.inr (.inr ⟨_, rfl⟩)) ?_⟩
    rw [List.append_nil]
    exact ⟨hd, rfl, rfl, hseen.respCheck hp⟩
  case geomAck hp hr hg => exact ⟨_, rfl, .goesOn nofun rfl rfl rfl rfl ⟨nofun, nofun, nofun, nofun⟩⟩
  case geomKeep rs r hp hr hg ht =>
    refine ⟨[], (List.append_nil _).symm, .goesOn (by simp [hp]) rfl rfl rfl rfl ?_⟩
    exact ⟨by simp [hp], by simp [hp], by simp [hp], by simp [hp]⟩
  case geomTimeout hp hr hg ht =>
    exact ⟨_, rfl, stands_readError ((seqOk_geom (.inl hp)).mp hs).1 rfl rfl rfl rfl (.inr rfl) ⟨_, ht, getLast?_event ..⟩⟩
  case geomWord hp hr hg hi => exact ⟨_, rfl, .goesOn nofun rfl rfl rfl rfl ⟨nofun, nofun, nofun, nofun⟩⟩
  case geomLast hp hr hg hi hw =>
    exact ⟨_, rfl, .goesOn nofun rfl rfl rfl rfl ⟨nofun, nofun, fun _ => .inr (getLast?_event ..), nofun⟩⟩
  case geomLastBare hp hr hg hi hw =>
    have hop := ((seqOk_geom (.inr hp)).mp hs).1.bare hw
    exact ⟨_, rfl, .bare rfl hop hop rfl rfl (.inl rfl)⟩
  case geomFail hp hr hg =>
    exact ⟨_, rfl, stands_readError ((seqOk_geom (.inr hp)).mp hs).1 rfl rfl rfl rfl (.inl ⟨_, rfl⟩)
      (.inr (.inl (getLast?_event ..)))⟩
  case geomAccepted hp hv =>
    have hop : s.op = .probe := ((seqOk_geomCheck hp).mp hs).2.1
    refine ⟨[], (List.append_nil _).symm, stands_finishOk rfl (by simp [hop]) (absurd hop) rfl rfl ?_⟩
    rw [hop, List.append_nil]
    exact ⟨rfl, hv, hseen.geomCheck hp⟩
  case geomRejected hp hv =>
    have hop : s.op = .probe := ((seqOk_geomCheck hp).mp hs).2.1
    refine ⟨[], (List.append_nil _).symm, stands_raiseError rfl rfl rfl rfl (fun _ => by rw [hop]; rfl) (fun _ => hop)
      (by simp [hop]) ?_⟩
    rw [List.append_nil]
    exact ⟨hv, hseen.geomCheck hp⟩
  case chunkNone hp hn =>
    have hop : s.op = .write := ((seqOk_chunk hp).mp hs).2.1
    refine ⟨[], (List.append_nil _).symm, stands_finishOk rfl (by simp [hop]) (fun _ => rfl) rfl rfl ?_⟩
    rw [hop, List.append_nil]
    refine ⟨hn, (hseen.chunk hp).imp_right fun h => h.imp_left fun ⟨hnew, hrem, hlen⟩ => ⟨hnew, ?_⟩⟩
    rw [hn] at hrem
    by_contra hne
    exact ofNat_length_ne_zero hne hlen hrem.symm
  case chunkNext hp hn =>
    have hsend := buildChunk_phase s
    refine ⟨[], (List.append_nil _).symm, .goesOn (by simp [hsend]) rfl rfl rfl rfl ?_⟩
    exact ⟨by simp [hsend], by simp [hsend], by simp [hsend], by simp [hsend]⟩

end Sys2Proof.Machine
end

section
/-! A whole run of what is in flight: its frame and how it stands at its end. -/

namespace Sys2Proof.Machine

variable {s t u v : State} {new : List Event}

/-- What a run leaves unchanged, with what its next tick needs. -/
structure RunFrame (s t : State) : Prop where
  later : Later s t
  args : t.args = s.args
  packed : t.packed = s.packed
  calls : t.calls = s.calls
  xfer : s.op ≠ .write → t.xfer = s.xfer ∧ t.packer = s.packer
  geom : s.op = .erase ∨ s.op = .write → t.geom = s.geom ∧ t.gidx = s.gidx
  stg : s.op = .none → t.stg = s.stg
  wf : t.stg.wf = true
  read : ∀ j, Kept s j → (t.phase = .idle → s.op = .probe → j < t.bank.stgWords) → t.stg.read j = s.stg.read j
  kept : t.phase ≠ .idle → ∀ j, Kept s j → Kept t j
  seq : SeqOk t
  writeOk : BankSound s.bank → WriteOk t

theorem runFrame_start (hs : SeqOk s) (hw : WriteOk s) (hstg : s.stg.wf = true) : RunFrame s s :=
  ⟨Later.refl s, rfl, rfl, rfl, fun _ => ⟨rfl, rfl⟩, fun _ => ⟨rfl, rfl⟩, fun _ => rfl, hstg, fun _ _ _ => rfl, fun _ _ h => h, hs,
    fun _ => hw⟩

/-- One more tick of a run that goes on. -/
theorem RunFrame.tick (h : RunFrame s v) (hop : v.op = s.op) (hbank : v.bank = s.bank) (hbusy : v.phase ≠ .idle)
    (ht : TickTo v t) : RunFrame s t where
  later := h.later.trans ht.later
  args := ht.args.trans h.args
  packed := ht.packed.trans h.packed
  calls := ht.calls.trans h.calls
  xfer hs := by
    obtain ⟨hx, hp⟩ := ht.xfer_kept h.seq (hop ▸ hs)
    exact ⟨hx.trans (h.xfer hs).1, hp.trans (h.xfer hs).2⟩
  geom hs := by
    obtain ⟨hg, hi⟩ := ht.geom_kept h.seq (hop ▸ hs)
    exact ⟨hg.trans (h.geom hs).1, hi.trans (h.geom hs).2⟩
  stg hs := (ht.stg_of_none h.seq (hop ▸ hs)).trans (h.stg hs)
  wf := ht.staging h.wf
  read j hk hj := by
    have hw : BankSound v.bank → WriteOk v := fun hb => h.writeOk (hbank ▸ hb)
    exact (ht.read_kept h.seq hw h.wf (h.kept hbusy j hk) (hop ▸ hj)).trans (h.read j hk fun hp => absurd hp hbusy)
  kept ht' j hk := by
    have hw : BankSound v.bank → WriteOk v := fun hb => h.writeOk (hbank ▸ hb)
    obtain ⟨hopt, -⟩ | hnone := ht.op_kept
    · exact ht.kept h.seq hw ht' hopt (h.kept hbusy j hk)
    · have hseq := ht.seqOk h.seq
      exact ⟨by simp [hnone], by simp [hnone], by simp [hnone]⟩
  seq := ht.seqOk h.seq
  writeOk hb := ht.writeOk (.inr (hbank ▸ hb)) h.seq (h.writeOk hb)

/-- How a run stands that has gone on from another. -/
theorem Stands.from {s v : State} (h : Stands v new t) (hop : v.op = s.op) (hb : v.bank = s.bank) (he : v.err = s.err)
    (hr : v.results = s.results) : Stands s new t := by
  cases h with
  | goesOn hp hop' hb' he' hr' hseen =>
    exact .goesOn hp (hop'.trans hop) (hb'.trans hb) (he'.trans he) (hr'.trans hr) hseen
  | bare hp hop' hs hb' hr' he' => exact .bare hp hop' (hop ▸ hs) (hb'.trans hb) (hr'.trans hr) (he ▸ he')
  | ok hp hop' hs hb' hr' he' hseen => exact .ok hp hop' (hop ▸ hs) (hop ▸ hb ▸ hb') (hr ▸ hr') (he ▸ he') (hop ▸ hseen)
  | error e o hp hop' hs hb' hr' he' hk hseen ho =>
    exact .error e o hp hop' (hop ▸ hs) (hop ▸ hb ▸ hb') (hr ▸ hr') (he ▸ he') (hop ▸ hk) hseen (hop ▸ ho)

/-- A whole run of what is in flight. -/
theorem runOn_stands (hs : SeqOk s) (hw : WriteOk s) (hstg : s.stg.wf = true) (hbusy : s.phase ≠ .idle) :
    RunFrame s (runOn s) ∧ ∃ new, (runOn s).trace = s.trace ++ new ∧ Stands s new (runOn s) := by
  refine runOn_keeps (P := fun t => RunFrame s t ∧ ∃ new, t.trace = s.trace ++ new ∧ Stands s new t) ?_
    ⟨runFrame_start hs hw hstg, [], (List.append_nil _).symm, .goesOn hbusy rfl rfl rfl rfl (seen_start hw)⟩
  rintro v t ⟨hframe, new, htrace, hstands⟩ ht
  have hbusy : v.phase ≠ .idle := fun hp => by simp [tick_idle hp] at ht
  have hto := tick_to ht
  cases hstands with
  | goesOn hp hop hb he hr hseen =>
    obtain ⟨ev, hev, hstands⟩ := hto.stands hframe.seq hseen
    exact ⟨hframe.tick hop hb hbusy hto, new ++ ev, by rw [hev, htrace, List.append_assoc], hstands.from hop hb he hr⟩
  | bare hp | ok hp | error e o hp => exact absurd hp hbusy

/-- A call that returns is an event, unless the block goes on waiting in it. -/
theorem TickTo.event (h : TickTo s t) (hi : s.phase.internal = false) : (∃ e, t.trace = s.trace ++ [e]) ∨ t.phase = s.phase := by
  cases h
  case geomKeep => exact .inr rfl
  case handshake hp => simp [hp, Phase.internal] at hi
  case doneBare hp _ _ => simp [hp, Phase.internal] at hi
  case doneProbe hp _ _ _ => simp [hp, Phase.internal] at hi
  case doneErase hp _ _ _ => simp [hp, Phase.internal] at hi
  case doneWrite hp _ _ _ => simp [hp, Phase.internal] at hi
  case notDone hp _ => simp [hp, Phase.internal] at hi
  case geomAccepted hp _ => simp [hp, Phase.internal] at hi
  case geomRejected hp _ => simp [hp, Phase.internal] at hi
  case chunkNone hp _ => simp [hp, Phase.internal] at hi
  case chunkNext hp _ => simp [hp, Phase.internal] at hi
  all_goals exact .inl ⟨_, rfl⟩

/-- A run that starts in a call ends only after an event. -/
theorem runOn_silent (hi : s.phase.internal = false) (hbusy : s.phase ≠ .idle) (htrace : (runOn s).trace = s.trace) :
    (runOn s).phase ≠ .idle := by
  have hprefix : s.trace <+: s.trace := List.prefix_refl _
  refine (runOn_keeps (P := fun t => s.trace <+: t.trace ∧ (t.trace = s.trace → t.phase.internal = false ∧ t.phase ≠ .idle)) ?_
    ⟨hprefix, fun _ => ⟨hi, hbusy⟩⟩).2 htrace |>.2
  rintro v t ⟨hpre, hv⟩ ht
  have hto := tick_to ht
  refine ⟨hpre.trans hto.later.trace, fun hsame => ?_⟩
  have hvt : v.trace <+: s.trace := hsame ▸ hto.later.trace
  have hvs : v.trace = s.trace := hvt.eq_of_length (Nat.le_antisymm hvt.length_le hpre.length_le)
  obtain ⟨hvi, hvp⟩ := hv hvs
  obtain ⟨e, he⟩ | hp := hto.event hvi
  · rw [he, hvs] at hsame
    simp at hsame
  · exact ⟨hp ▸ hvi, hp ▸ hvp⟩

/-- Settles O53: the frame and the end of the run that the step is. -/
theorem resumedOperationsEndOrWait : Obligations.ResumedOperationsEndOrWait := by
  intro s t hphase hstg hreset hbusy hstep
  obtain ⟨hs, hw⟩ := phaseOk_iff.mp hphase
  rw [step_in_flight hreset hbusy] at hstep
  obtain rfl : runOn s = t := by cases hstep; rfl
  obtain ⟨hframe, new, htrace, hstands⟩ := runOn_stands hs hw hstg hbusy
  refine ⟨new, htrace, fun hidle hi hnil => ?_, hframe.later.cfg, hframe.args, hframe.calls, hframe.packed, hframe.xfer, hframe.geom,
    hframe.stg, fun hop j hj hlt => ?_, fun hop j hj => ?_, fun hop j hj => ?_, ?_⟩
  · exact runOn_silent hi hbusy (by rw [htrace, hnil, List.append_nil]) hidle
  · exact hframe.read j ⟨fun _ => hj, by simp [hop], by simp [hop]⟩ fun _ _ => hlt
  · exact hframe.read j ⟨by simp [hop], fun _ => hj, by simp [hop]⟩ (by simp [hop])
  · exact hframe.read j ⟨by simp [hop], by simp [hop], fun _ => hj⟩ (by simp [hop])
  · cases hstands with
    | goesOn hp hop hb he hr hseen =>
      obtain hidle | ⟨-, hreplies⟩ := (tick_none_iff _).mp (tick_runOn s)
      · exact absurd hidle hp
      · exact .inl ⟨hp, hop, hb, he, hr, hreplies⟩
    | bare hp hop hs hb hr he => exact .inr (.inl ⟨hp, hop, hs, hb, hr, he⟩)
    | ok hp hop hs hb hr he hseen => exact .inr (.inr (.inl ⟨hp, hop, hs, hb, hr, he, hseen⟩))
    | error e o hp hop hs hb hr he hk hseen ho =>
      exact .inr (.inr (.inr ⟨hp, hop, hs, hb, e, o, hr, he, hk, hseen, ho⟩))

end Sys2Proof.Machine
end

section
/-! WRITE on a sound bank (44_write.md R200 to R209): its run from the head of its loop, chunk by chunk, and the statements about
WRITE. -/

namespace Sys2Proof.Machine

variable {s t u : State} {rs : List Reply}

/-! ### The head of the loop -/

/-- A run length is no part of the progress. -/
theorem Progress.built {a : Args} {x : Transfer} (h : Progress a x) {w : Word} : Progress a { x with runLen := w } :=
  ⟨h.length, h.position, h.offset⟩

/-- A WRITE at the head of its loop, on a sound bank (44_write.md R200). -/
structure AtHead (u : State) : Prop where
  phase : u.phase = .chunk
  op : u.op = .write
  whole : u.whole = true
  staging : u.stg.wf = true
  bank : BankSound u.bank
  progress : Progress u.args u.xfer

/-- The chunks that are left. -/
def chunksLeft (u : State) : List (Word × List Byte) := chunksOf u.bank (payloadLeft u) u.xfer.curOffset

/-- The packet of the next of them. -/
def headPacket (u : State) : List Word := chunkPacket u.cfg u.bank (payloadLeft u) u.xfer.curOffset

/-- The head of the loop after the next chunk, acknowledged (44_write.md R208). -/
def nextHead (rs : List Reply) (u : State) : State := advance (acceptedCycle (headPacket u) rs (buildChunk u))

theorem AtHead.chunksLeft_nil (h : AtHead u) (hn : u.xfer.remaining = 0) : chunksLeft u = [] := by
  have hpos := h.progress.position
  have hnil : payloadLeft u = [] := List.drop_eq_nil_of_le (by rw [hn] at hpos; exact hpos.ge)
  rw [chunksLeft, hnil, chunksOf_nil]

section

variable (h : AtHead u) (hn : u.xfer.remaining ≠ 0)
include h hn

theorem AtHead.runOn_build : runOn u = runOn (buildChunk u) := (TickTo.chunkNext h.phase hn).runOn

theorem AtHead.build_words : (buildChunk u).stg.words 0 ((builtData u).length + 3) = headPacket u :=
  (buildChunk_words h.staging h.bank h.progress hn).1

theorem AtHead.next (rs : List Reply) : AtHead (nextHead rs u) where
  phase := rfl
  op := h.op
  whole := h.whole
  staging := by
    have := builtStg_wf h.staging
    rwa [← buildChunk_stg] at this
  bank := h.bank
  progress := by
    exact Progress.advance (x := { u.xfer with runLen := builtLen u }) h.progress.built (chunkSound_build h.bank hn)

theorem AtHead.payloadLeft_next (rs : List Reply) :
    payloadLeft (nextHead rs u) = afterChunk u.bank (payloadLeft u) u.xfer.curOffset := by
  have hafter := payloadLeft_after h.bank h.progress hn
  exact hafter

theorem AtHead.chunksLeft_next (rs : List Reply) :
    chunksLeft u = (u.xfer.curOffset, payloadLeft u) :: chunksLeft (nextHead rs u) := by
  have hoffset := nextOffset_eq h.progress
  rw [chunksLeft, chunksOf_cons h.bank h.progress.length_payloadLeft _ (h.progress.payloadLeft_ne_nil hn), chunksLeft,
    h.payloadLeft_next hn rs, ← hoffset]
  rfl

theorem AtHead.length_next (rs : List Reply) : (payloadLeft (nextHead rs u)).length < (payloadLeft u).length := by
  rw [h.payloadLeft_next hn rs]
  exact length_afterChunk_lt h.bank h.progress.length_payloadLeft _ (h.progress.payloadLeft_ne_nil hn)

end

theorem chunkEvents_cons (p : Params) (b : Bank) (offset : Word) (payload : List Byte) (chunks : List (Word × List Byte)) :
    chunkEvents p b ((offset, payload) :: chunks) = cycleEvents (chunkPacket p b payload offset) p.rspDone ++ chunkEvents p b chunks :=
  List.flatMap_cons ..

/-! ### Every run of the loop -/

/-- Everything that can come of the loop: it waits in a chunk's cycle, a chunk's cycle fails (44_write.md R209), or every chunk has
been acknowledged. -/
inductive WriteRun (u t : State) : Prop where
  | waits (new : List Event) (hr : t.results = u.results) (htrace : t.trace = u.trace ++ new)
      (hnew : new <+: chunkEvents u.cfg u.bank (chunksLeft u))
  | fails (v : State) (m : Nat) (e : ErrInfo) (fails : List Event) (hop : v.op = .write) (hr : v.results = u.results)
      (hprogress : Progress u.args v.xfer) (hn : v.xfer.remaining ≠ 0)
      (hm : (chunksLeft u)[m]? = some (v.xfer.curOffset, u.args.payload.drop v.xfer.payPos.toNat))
      (hfails : CycleFails u.cfg .flashBlock
        (chunkPacket u.cfg u.bank (u.args.payload.drop v.xfer.payPos.toNat) v.xfer.curOffset) e fails)
      (htrace : v.trace = u.trace ++ (chunkEvents u.cfg u.bank ((chunksLeft u).take m) ++ fails)) (h : t = raiseError true e v)
  | ends (hr : t.results = u.results ++ [.ok]) (htrace : t.trace = u.trace ++ chunkEvents u.cfg u.bank (chunksLeft u))

/-- The run of the loop, one acknowledged chunk earlier. -/
theorem WriteRun.before (h : AtHead u) (hn : u.xfer.remaining ≠ 0) (hrun : WriteRun (nextHead rs u) t) : WriteRun u t := by
  have hleft := h.chunksLeft_next hn rs
  have htrace : (nextHead rs u).trace = u.trace ++ cycleEvents (headPacket u) u.cfg.rspDone := rfl
  cases hrun with
  | waits new hr ht hnew =>
    refine .waits (cycleEvents (headPacket u) u.cfg.rspDone ++ new) hr (by rw [ht, htrace, List.append_assoc]) ?_
    rw [hleft, chunkEvents_cons]
    exact (List.prefix_append_right_inj _).mpr hnew
  | fails v m e fails hop hr hprogress hv hm hfails ht ht' =>
    refine .fails v (m + 1) e fails hop hr hprogress hv (by rw [hleft]; exact hm) hfails ?_ ht'
    rw [ht, htrace, hleft, List.take_succ_cons, chunkEvents_cons]
    simp only [List.append_assoc]
    rfl
  | ends hr ht =>
    refine .ends hr ?_
    rw [ht, htrace, hleft, chunkEvents_cons, List.append_assoc]
    rfl

theorem writeRun (u : State) (h : AtHead u) : WriteRun u (runOn u) := by
  by_cases hn : u.xfer.remaining = 0
  · rw [(TickTo.chunkNone h.phase hn).runOn, runOn_finishOk]
    refine .ends ?_ ?_
    · rw [finishOk_results, if_neg (by simp [h.op])]
    · rw [h.chunksLeft_nil hn]
      exact (List.append_nil _).symm
  · rw [h.runOn_build hn]
    have hleft := h.chunksLeft_next hn []
    cases cycleRun (u := buildChunk u) (buildChunk_phase u) (h.build_words hn) with
    | waits ph ps new hph hnew hrun =>
      rw [hrun]
      refine .waits new rfl rfl (hnew.trans ?_)
      rw [hleft, chunkEvents_cons]
      exact ⟨.recv (.word u.cfg.rspDone) :: chunkEvents u.cfg u.bank (chunksLeft (nextHead [] u)), rfl⟩
    | fails e events w rs hfails hrun =>
      exact .fails { buildChunk u with resp := w, replies := rs, trace := u.trace ++ events } 0 e events h.op rfl h.progress.built hn
        (by rw [hleft]; rfl) hfails (by rw [List.take_zero]; rfl) hrun
    | accepted rs hrun =>
      rw [hrun, afterCycle_write ?_ ?_]
      · exact (writeRun (nextHead rs u) (h.next hn rs)).before h hn
      · exact h.whole
      · exact h.op
termination_by (payloadLeft u).length
decreasing_by exact h.length_next hn rs

/-! ### From the target query on -/

/-- The loop begins at its head. -/
theorem atHead_writeStarted {offset : Word} {payload : List Byte} (hstg : s.stg.wf = true) (hb : BankSound s.bank)
    (hp : payloadTooLong s.cfg payload = false) (rs : List Reply) : AtHead (writeStarted offset payload rs s) where
  phase := rfl
  op := rfl
  whole := rfl
  staging := hstg
  bank := hb
  progress := progress_startWrite (length_of_payload_fits hp) s.xfer.runLen

/-- Settles O51: the run of the loop whose result is that error. -/
theorem writeFailureReportsItsOffset : Obligations.WriteFailureReportsItsOffset := by
  intro s t offset payload e o he hstg hb hp ht hres hne
  rw [exec_hostWrite offset he hp hb.probed, ← atRunCheck] at ht
  obtain rfl : runOn (atRunCheck .write ⟨0, 0, offset, payload⟩ s) = t := by cases ht; rfl
  cases hr : s.replies with
  | nil =>
    rw [runOn_waiting (s := atRunCheck .write ⟨0, 0, offset, payload⟩ s) rfl hr] at hres
    simp [atRunCheck, accept] at hres
  | cons r rs =>
    cases hg : r.good with
    | false =>
      rw [runOn_targetDown (.inr rfl) hr hg] at hres
      obtain ⟨rfl, -⟩ : Block.ErrInfo.targetNotRunning = e ∧ _ := by simpa using hres
      exact absurd rfl hne
    | true =>
      rw [runOn_writeStarted hr hg] at hres ⊢
      have hstart : (writeStarted offset payload rs s).results = s.results := rfl
      cases writeRun _ (atHead_writeStarted (offset := offset) hstg hb hp rs) with
      | waits new hr' htrace hnew =>
        rw [hr', hstart] at hres
        simp at hres
      | ends hr' htrace =>
        rw [hr', hstart] at hres
        simp at hres
      | fails v m e' fails hop hr' hprogress hn hm hfails htrace h =>
        rw [h, raiseError_write e' hop hfails.kinds.1] at hres ⊢
        rw [hr', hstart] at hres
        obtain ⟨rfl, rfl⟩ : e' = e ∧ some v.xfer.curOffset = o := by simpa using hres
        refine ⟨rfl, rfl, rfl, rfl, hprogress.offset, hprogress.position, hn, m, fails, hm, hfails, ?_⟩
        rw [htrace]
        exact List.append_assoc ..

/-- On a sound bank the events of a WRITE past its first gate say which outcome it is (60_exceptions.md R237). -/
theorem write_events {offset : Word} {payload : List Byte} {new : List Event} (hstg : s.stg.wf = true) (hb : BankSound s.bank)
    (hp : payloadTooLong s.cfg payload = false)
    (ht : t = runOn (atRunCheck .write ⟨0, 0, offset, payload⟩ s)) (htrace : t.trace = s.trace ++ new) :
    (t.results = s.results ++ [.ok] → new = .run true :: chunkEvents s.cfg s.bank (chunksOf s.bank payload offset)) ∧
    (∀ o, t.results = s.results ++ [.err .targetNotRunning o] → new = [.run false]) ∧
    (t.results = s.results → new <+: .run true :: chunkEvents s.cfg s.bank (chunksOf s.bank payload offset)) := by
  cases hr : s.replies with
  | nil =>
    rw [runOn_waiting (s := atRunCheck .write ⟨0, 0, offset, payload⟩ s) rfl hr] at ht
    subst ht
    obtain rfl : new = [] := List.self_eq_append_right.mp htrace
    exact ⟨fun h => by simp [atRunCheck, accept] at h, fun o h => by simp [atRunCheck, accept] at h, fun _ => List.nil_prefix⟩
  | cons r rs =>
    cases hg : r.good with
    | false =>
      rw [runOn_targetDown (.inr rfl) hr hg] at ht
      subst ht
      obtain rfl : [.run false] = new := List.append_cancel_left htrace
      exact ⟨fun h => by simp at h, fun _ _ => rfl, fun h => by simp at h⟩
    | true =>
      rw [runOn_writeStarted hr hg] at ht
      subst ht
      have hstart : (writeStarted offset payload rs s).results = s.results := rfl
      have hbegin : (writeStarted offset payload rs s).trace = s.trace ++ [.run true] := rfl
      cases writeRun _ (atHead_writeStarted (offset := offset) hstg hb hp rs) with
      | waits new' hr' htrace' hnew =>
        rw [htrace', hbegin, List.append_assoc] at htrace
        obtain rfl : .run true :: new' = new := List.append_cancel_left htrace
        rw [hr', hstart]
        exact ⟨fun h => by simp at h, fun o h => by simp at h, fun _ => (List.prefix_cons_inj _).mpr hnew⟩
      | ends hr' htrace' =>
        rw [htrace', hbegin, List.append_assoc] at htrace
        obtain rfl := List.append_cancel_left htrace
        rw [hr', hstart]
        exact ⟨fun _ => rfl, fun o h => by simp at h, fun h => by simp at h⟩
      | fails v m e fails hop hr' hprogress hn hm hfails htrace' h =>
        rw [h, raiseError_write e hop hfails.kinds.1, hr', hstart]
        exact ⟨fun h => by simp at h, fun o h => absurd (by simpa using h) (fun h : e = _ ∧ _ => hfails.kinds.2.2 h.1),
          fun h => by simp at h⟩

theorem Stands.bank_kept {new : List Event} (h : Stands s new t) (hop : s.op ≠ .probe) : t.bank = s.bank := by
  cases h with
  | goesOn hp hop' hb => exact hb
  | bare hp hop' hs hb => exact hb
  | ok hp hop' hs hb => exact hb hop
  | error e o hp hop' hs hb => exact hb hop

/-- Settles O52: the frame and the end of the run, and on a sound bank its events. -/
theorem writeOutcomesAndFrame : Obligations.WriteOutcomesAndFrame := by
  intro s offset payload he hstg hp
  cases hb : s.probed with
  | false =>
    have hunsound : ¬ BankSound s.bank := fun h => by
      have := h.probed
      simp [Block.State.probed, this] at hb
    rw [exec_hostWrite_unprobed offset he hp hb, raiseError_gate .bankNotProbed ?_ nofun]
    · exact ⟨_, [], rfl, (List.append_nil _).symm, rfl, rfl, rfl, rfl, rfl, fun _ _ => rfl, fun h => absurd h hunsound,
        .inr (.inl ⟨_, none, rfl, rfl, rfl, rfl, rfl⟩)⟩
    · exact .inr rfl
  | true =>
    rw [exec_hostWrite offset he hp hb, ← atRunCheck]
    have hseq : SeqOk (atRunCheck .write ⟨0, 0, offset, payload⟩ s) := (seqOk_runCheck rfl).mpr ⟨rfl, .inr rfl, rfl⟩
    have hwrite : WriteOk (atRunCheck .write ⟨0, 0, offset, payload⟩ s) :=
      (writeOk_runCheck rfl).mpr ⟨hb, length_of_payload_fits hp⟩
    obtain ⟨hframe, new, htrace, hstands⟩ := runOn_stands hseq hwrite hstg nofun
    have hkept : ∀ j, (s.bank.stgWords ≤ j ∨ BankSound s.bank ∧ BeyondPackets s.cfg s.bank (chunksOf s.bank payload offset) j) →
        (runOn (atRunCheck .write ⟨0, 0, offset, payload⟩ s)).stg.read j = s.stg.read j :=
      fun j hj => hframe.read j ⟨nofun, nofun, fun _ => hj⟩ nofun
    obtain ⟨hgeom, hgidx⟩ := hframe.geom (.inr rfl)
    refine ⟨_, new, rfl, htrace, hstands.bank_kept nofun, hgeom, hgidx, hframe.later.cfg, hframe.packed, fun j hj => hkept j (.inl hj),
      fun hsound => ⟨fun j hj => hkept j (.inr ⟨hsound, hj⟩), write_events hstg hsound hp rfl htrace⟩, ?_⟩
    cases hstands with
    | goesOn hph hop hbank herr hr hseen =>
      obtain hidle | ⟨-, hreplies⟩ := (tick_none_iff _).mp (tick_runOn (atRunCheck .write ⟨0, 0, offset, payload⟩ s))
      · exact absurd hidle hph
      · exact .inr (.inr ⟨hop, hr, hph, hreplies⟩)
    | bare hph hop hnone => cases hnone
    | ok hph hop hne hbank hr herr hseen => exact .inl ⟨hop, hr, by rw [herr]⟩
    | error e o hph hop hne hbank hr herr hk hseen ho =>
      have hprobed : e ≠ .bankNotProbed := fun h => by rw [h] at hseen; exact hseen
      refine .inr (.inl ⟨e, o, hop, hr, hk, by rw [herr]; rfl, ?_⟩)
      rw [ho]
      by_cases hdown : e = .targetNotRunning
      · rw [if_neg (fun h => h.2 hdown), if_pos (.inr hdown)]
      · rw [if_pos ⟨rfl, hdown⟩, if_neg (fun h => h.elim hprobed hdown)]

/-! ### Every chunk acknowledged -/

/-- A WRITE at the head of its loop with a chunk behind it, as far as `u` is unchanged. -/
def pastChunk (x : Transfer) (stg : Memory) (pk : Packer) (rs : List Reply) (trace : List Event) (u : State) : State :=
  { u with
    phase := .chunk, pstate := .done, tag := .flashBlock, resp := u.cfg.rspDone, xfer := x, stg := stg, packer := pk, replies := rs
    trace := trace }

/-- The loop with every chunk acknowledged, to its end (44_write.md R208). -/
theorem runOn_chunks_accepted (cycles : List CycleReplies) (u : State) (h : AtHead u) (hn : u.xfer.remaining ≠ 0)
    (hlen : cycles.length = (chunksLeft u).length) (hc : ∀ c ∈ cycles, c.accepts u.cfg)
    (hr : u.replies = cycles.flatMap CycleReplies.list ++ rs) :
    ∃ x stg pk, runOn u = finishOk (pastChunk x stg pk rs (u.trace ++ chunkEvents u.cfg u.bank (chunksLeft u)) u) ∧
      x.curOffset = u.xfer.curOffset + u.xfer.remaining ∧ x.payPos = u.xfer.payPos + u.xfer.remaining ∧ x.remaining = 0 := by
  cases cycles with
  | nil =>
    rw [h.chunksLeft_next hn []] at hlen
    cases hlen
  | cons c cycles =>
    obtain ⟨haccepts, hrest⟩ := List.forall_mem_cons.mp hc
    rw [List.flatMap_cons, List.append_assoc] at hr
    have hleft := h.chunksLeft_next hn (cycles.flatMap CycleReplies.list ++ rs)
    rw [hleft, List.length_cons, List.length_cons, Nat.add_right_cancel_iff] at hlen
    have hsum : ∀ w : Word, w + builtLen u + (u.xfer.remaining - builtLen u) = w + u.xfer.remaining :=
      fun w => add_add_sub_cancel w _ _
    rw [h.runOn_build hn, runOn_send_accepted (u := buildChunk u) (buildChunk_phase u) (h.build_words hn) hr haccepts,
      afterCycle_write ?_ ?_, ← nextHead, hleft, chunkEvents_cons, ← List.append_assoc]
    · have hnext := h.next hn (cycles.flatMap CycleReplies.list ++ rs)
      by_cases hlast : (nextHead (cycles.flatMap CycleReplies.list ++ rs) u).xfer.remaining = 0
      · have hnil := hnext.chunksLeft_nil hlast
        have hall : ∀ w : Word, w + builtLen u = w + u.xfer.remaining := fun w => by
          rw [← hsum w, show u.xfer.remaining - builtLen u = 0 from hlast]
          exact (BitVec.add_zero _).symm
        obtain rfl : cycles = [] := List.eq_nil_of_length_eq_zero (by rw [hlen, hnil]; rfl)
        rw [hnil, (TickTo.chunkNone hnext.phase hlast).runOn, runOn_finishOk]
        exact ⟨_, _, _, congrArg finishOk (by rw [chunkEvents_nil, List.append_nil]; rfl), hall _, hall _, hlast⟩
      · obtain ⟨x, stg, pk, hrun, hoffset, hpos, hrem⟩ := runOn_chunks_accepted cycles _ hnext hlast hlen hrest rfl
        exact ⟨x, stg, pk, hrun, hoffset.trans (hsum _), hpos.trans (hsum _), hrem⟩
    · exact h.whole
    · exact h.op

/-- Settles O48: the gates, then the loop with every chunk acknowledged; `writeOutcomesAndFrame` has the words of `STG`. -/
theorem writeCompletes : Obligations.WriteCompletes := by
  intro s offset payload run cycles rest he hstg hb hne hp hrun hlen hc hr
  obtain ⟨hop, hphase⟩ := (engaged_eq_false_iff s).mp he
  obtain ⟨t, new, ht, -, -, -, -, -, -, -, hsound, -⟩ := writeOutcomesAndFrame s offset payload he hstg hp
  refine ⟨t, ht, ?_, (hsound hb).1⟩
  rw [exec_hostWrite offset he hp hb.probed, ← atRunCheck, runOn_writeStarted hr hrun] at ht
  have hn := ofNat_length_ne_zero hne (length_of_payload_fits hp)
  obtain ⟨⟨co, rem, rl, pp⟩, stg, pk, hend, hoffset, hpos, hrem⟩ :=
    runOn_chunks_accepted cycles _ (atHead_writeStarted (offset := offset) hstg hb hp _) hn hlen hc rfl
  obtain rfl : co = offset + BitVec.ofNat 32 payload.length := hoffset
  obtain rfl : pp = BitVec.ofNat 32 payload.length := hpos.trans (BitVec.zero_add _)
  obtain rfl : rem = 0 := hrem
  rw [hend] at ht
  obtain rfl := Host.Outcome.next.inj ht
  simp only [finishOk, pastChunk, writeStarted, startWrite, atRunCheck, accept, reduceCtorEq, if_false, hop, hphase,
    List.append_assoc, List.singleton_append]
  rfl

end Sys2Proof.Machine
end

section
/-! TransportErrors under other names (10_state.md R46): every operation of the engine commutes with `Block.State.relabel`, and so
do a tick, a run, each meaning and a step. -/

namespace Sys2Proof.Machine

variable {α β : Type} (f : TransportErr α → TransportErr β)

/-! ### The pieces -/

theorem relabel_log (e : Block.Event α) (s : Block.State α) : (s.log e).relabel f = (s.relabel f).log (e.relabel f) := by
  simp [Block.State.log, Block.State.relabel]

theorem relabel_record (e : Block.ErrInfo α) (o : Option Word) (r : Block.ErrRegs α) :
    (r.record e o).relabel f = (r.relabel f).record (e.relabel f) o := by
  cases e <;> rfl

theorem relabel_raiseError (c : Bool) (e : Block.ErrInfo α) (s : Block.State α) :
    (raiseError c e s).relabel f = raiseError c (e.relabel f) (s.relabel f) := by
  have hresults : (raiseError c e s).results.map (Block.OpResult.relabel f) = (raiseError c (e.relabel f) (s.relabel f)).results := by
    rw [raiseError_results, raiseError_results, relabel_op, relabel_results]
    split
    · rfl
    · exact List.map_append
  simp only [Block.State.relabel, hresults]
  simp only [raiseError, relabel_record, relabel_kind]
  rfl

theorem relabel_finishOk (s : Block.State α) : (finishOk s).relabel f = finishOk (s.relabel f) := by
  have hresults : (finishOk s).results.map (Block.OpResult.relabel f) = (finishOk (s.relabel f)).results := by
    rw [finishOk_results, finishOk_results, relabel_op, relabel_results]
    split
    · rfl
    · exact List.map_append
  simp only [Block.State.relabel, hresults]
  rfl

theorem relabel_startErase (s : Block.State α) : (startErase s).relabel f = startErase (s.relabel f) := by
  rw [startErase_eq, startErase_eq]
  rfl

/-- A choice commutes when its two branches do. -/
theorem relabel_ite {c : Prop} {hc hc' : Decidable c} {s t : Block.State α} {s' t' : Block.State β} (hs : s.relabel f = s')
    (ht : t.relabel f = t') : (@ite _ c hc s t).relabel f = @ite _ c hc' s' t' := by
  by_cases h : c
  · rw [if_pos h, if_pos h, hs]
  · rw [if_neg h, if_neg h, ht]

theorem relabel_afterDrain (s : Block.State α) : (afterDrain s).relabel f = afterDrain (s.relabel f) := relabel_ite f rfl rfl

theorem relabel_afterCycle (s : Block.State α) : (afterCycle s).relabel f = afterCycle (s.relabel f) := by
  refine relabel_ite f ?_ rfl
  rw [relabel_op]
  cases s.op with
  | erase => exact relabel_finishOk f s
  | none | probe | write => rfl

theorem relabel_nextChunk (s : Block.State α) : (nextChunk s).relabel f = nextChunk (s.relabel f) :=
  relabel_ite f (relabel_finishOk f s) rfl

theorem relabel_checkGeometry (s : Block.State α) : (checkGeometry s).relabel f = checkGeometry (s.relabel f) :=
  relabel_ite f (relabel_finishOk f _) (relabel_raiseError f ..)

theorem relabel_checkResponse (s : Block.State α) : (checkResponse s).relabel f = checkResponse (s.relabel f) :=
  relabel_ite f (relabel_afterCycle f _) (relabel_raiseError f ..)

theorem relabel_compute (s : Block.State α) : (compute s).relabel f = compute (s.relabel f) := by
  simp only [compute, relabel_phase]
  cases s.phase
  case respCheck => exact relabel_checkResponse f s
  case geomCheck => exact relabel_checkGeometry f s
  case chunk => exact relabel_nextChunk f s
  all_goals rfl

/-! ### The answers of the calls -/

variable (r : Block.Reply α) (s : Block.State α)

/-- An event, then an error. -/
theorem relabel_log_error (c : Bool) (e : Block.ErrInfo α) (ev : Block.Event α) :
    (raiseError c e (s.log ev)).relabel f = raiseError c (e.relabel f) ((s.relabel f).log (ev.relabel f)) := by
  rw [relabel_raiseError, relabel_log]

theorem relabel_answerRun : (answerRun r s).relabel f = answerRun (r.relabel f) (s.relabel f) := by
  have hlog := relabel_log f (.run r.good) s
  refine relabel_ite f ?_ (relabel_log_error ..)
  rw [relabel_op]
  cases s.op with
  | erase => exact (relabel_startErase f _).trans (congrArg startErase hlog)
  | write => exact congrArg startWrite hlog
  | none | probe => exact congrArg (fun u : Block.State β => { u with phase := .idle }) hlog

theorem relabel_answerPoll [Inhabited α] [Inhabited β] (hd : ∀ n, f (Config.drainLimitError n) = Config.drainLimitError n) :
    (answerPoll r s).relabel f = answerPoll (r.relabel f) (s.relabel f) := by
  have hlog := relabel_log f (.rxp r.good) s
  refine relabel_ite f (relabel_ite f ?_ ?_) ((relabel_afterDrain f _).trans (congrArg afterDrain hlog))
  · rw [relabel_log_error, Block.ErrInfo.relabel, hd, relabel_trace, List.length_map]
    rfl
  · exact congrArg (fun u : Block.State β => { u with phase := .drainTake }) hlog

theorem relabel_answerDrain : (answerDrain r s).relabel f = answerDrain (r.relabel f) (s.relabel f) :=
  relabel_ite f (congrArg (fun u : Block.State β => { u with drained := s.drained + 1, phase := .drainPoll })
    (relabel_log f (.recv (.word r.word)) s)) (relabel_log_error ..)

theorem relabel_answerSend (n : Nat) : (answerSend n r s).relabel f = answerSend n (r.relabel f) (s.relabel f) :=
  relabel_ite f (congrArg (fun u : Block.State β => { u with pstate := .cmdSent, phase := .sent })
    (relabel_log f (.send (s.stg.words 0 n) none) s)) (relabel_log_error ..)

theorem relabel_answerAck : (answerAck r s).relabel f = answerAck (r.relabel f) (s.relabel f) :=
  relabel_ite f (congrArg (fun u : Block.State β => { u with phase := .respRead }) (relabel_log f (.hs ackTimeoutMs r.good) s))
    (relabel_log_error ..)

theorem relabel_answerResponse : (answerResponse r s).relabel f = answerResponse (r.relabel f) (s.relabel f) :=
  relabel_ite f (congrArg (fun u : Block.State β => { u with
    resp := r.word, pstate := .responseReceived, phase := .respCheck }) (relabel_log f (.recv (.word r.word)) s))
    (relabel_log_error ..)

theorem relabel_answerGeomAck : (answerGeomAck r s).relabel f = answerGeomAck (r.relabel f) (s.relabel f) :=
  relabel_ite f (congrArg (fun u : Block.State β => { u with phase := .geomRead }) (relabel_log f (.hs s.cfg.geomTimeoutMs true) s))
    (relabel_ite f rfl (relabel_log_error ..))

theorem relabel_answerGeomWord : (answerGeomWord r s).relabel f = answerGeomWord (r.relabel f) (s.relabel f) := by
  have hlog := relabel_log f (.recv (.word r.word)) s
  refine relabel_ite f (relabel_ite f ?_ ?_) (relabel_log_error ..)
  · exact congrArg (fun u : Block.State β => afterGeomRead { u with geom := s.geom.set s.gidx r.word, gidx := s.gidx + 1 }) hlog
  · exact congrArg (fun u : Block.State β => { u with
      geom := s.geom.set s.gidx r.word, gidx := s.gidx + 1, phase := .geomWait }) hlog

section

variable [Inhabited α] [Inhabited β] (hd : ∀ n, f (Config.drainLimitError n) = Config.drainLimitError n)
include hd

theorem relabel_answer : (answer r s).relabel f = answer (r.relabel f) (s.relabel f) := by
  simp only [answer, relabel_phase]
  cases s.phase
  case runCheck => exact relabel_answerRun f r s
  case drainPoll => exact relabel_answerPoll f r s hd
  case drainTake => exact relabel_answerDrain f r s
  case send n => exact relabel_answerSend f r s n
  case ackWait => exact relabel_answerAck f r s
  case respRead => exact relabel_answerResponse f r s
  case geomWait => exact relabel_answerGeomAck f r s
  case geomRead => exact relabel_answerGeomWord f r s
  all_goals rfl

/-! ### Ticks and runs -/

theorem relabel_tick : tick (s.relabel f) = (tick s).map (Block.State.relabel f) := by
  cases hi : s.phase.internal with
  | true => rw [tick_internal hi, tick_internal (s := s.relabel f) hi, Option.map_some, relabel_compute]
  | false =>
    by_cases hp : s.phase = .idle
    · rw [tick_idle hp, tick_idle (s := s.relabel f) hp, Option.map_none]
    · cases hr : s.replies with
      | nil =>
        have hr' : (s.relabel f).replies = [] := by rw [relabel_replies, hr, List.map_nil]
        rw [(tick_none_iff s).mpr (.inr ⟨hi, hr⟩), (tick_none_iff (s.relabel f)).mpr (.inr ⟨hi, hr'⟩), Option.map_none]
      | cons r rs =>
        have hr' : (s.relabel f).replies = r.relabel f :: rs.map (Block.Reply.relabel f) := by
          rw [relabel_replies, hr, List.map_cons]
        rw [tick_call hi hp hr, tick_call (s := s.relabel f) hi hp hr', Option.map_some, relabel_answer f r _ hd]
        rfl

theorem relabel_runFor : ∀ (n : Nat) (s : Block.State α), runFor n (s.relabel f) = (runFor n s).relabel f
  | 0, _ => rfl
  | n + 1, s => by
    rw [runFor, runFor, relabel_tick f s hd]
    cases tick s with
    | none => rfl
    | some t => exact relabel_runFor n t

theorem relabel_runOn : runOn (s.relabel f) = (runOn s).relabel f := by
  rw [runOn, runOn, tickBudget, relabel_replies, List.length_map]
  exact relabel_runFor f hd _ s

/-! ### The meanings -/

section

variable {start : Block.State α → Block.State α} {start' : Block.State β → Block.State β}
  (h : ∀ u, (start u).relabel f = start' (u.relabel f))
include h

theorem relabel_launch : launch start' (s.relabel f) = relabelOutcome f (launch start s) := by
  cases he : s.engaged with
  | true =>
    rw [launch_engaged he, launch_engaged (s := s.relabel f) he]
    rfl
  | false =>
    rw [launch_ready he, launch_ready (s := s.relabel f) he, relabelOutcome, ← relabel_runOn f _ hd, h]
    rfl

theorem relabel_launchIf (emits : Bool) : launchIf emits start' (s.relabel f) = relabelOutcome f (launchIf emits start s) := by
  by_cases he : s.engaged = false ∧ emits = false
  · rw [launchIf, launchIf, if_pos he, if_pos (show (s.relabel f).engaged = false ∧ emits = false from he)]
    rfl
  · rw [launchIf, launchIf, if_neg he, if_neg (show ¬ ((s.relabel f).engaged = false ∧ emits = false) from he)]
    exact relabel_launch f s hd h

end

end

theorem relabel_beginErase (first last : Word) (s : Block.State α) :
    (beginErase first last s).relabel f = beginErase first last (s.relabel f) :=
  relabel_ite f rfl (relabel_raiseError f ..)

theorem relabel_beginWrite (offset : Word) (payload : List Byte) (s : Block.State α) :
    (beginWrite offset payload s).relabel f = beginWrite offset payload (s.relabel f) :=
  relabel_ite f rfl (relabel_raiseError f ..)

/-- A choice of outcomes commutes when its two branches do. -/
theorem relabelOutcome_ite {c : Prop} {hc hc' : Decidable c} {a b : Host.Outcome (Block.State α) Fault Refusal}
    {a' b' : Host.Outcome (Block.State β) Fault Refusal} (ha : a' = relabelOutcome f a) (hb : b' = relabelOutcome f b) :
    @ite _ c hc' a' b' = relabelOutcome f (@ite _ c hc a b) := by
  by_cases h : c
  · rw [if_pos h, if_pos h, ha]
  · rw [if_neg h, if_neg h, hb]

/-- Of a good answer only the word counts. -/
theorem answer_good [Inhabited α] (w : Word) (e e' : TransportErr α) (s : Block.State α) :
    answer ⟨true, w, e⟩ s = answer ⟨true, w, e'⟩ s := by
  unfold answer
  cases s.phase <;> rfl

section

variable [Inhabited α] [Inhabited β] (hd : ∀ n, f (Config.drainLimitError n) = Config.drainLimitError n)
include hd

theorem relabel_answer_word (w : Word) (s : Block.State α) :
    (answer ⟨true, w, default⟩ s).relabel f = answer ⟨true, w, default⟩ (s.relabel f) :=
  (relabel_answer f _ s hd).trans (answer_good w _ _ _)

theorem relabel_takeWord (w : Word) (s : Block.State α) : (takeWord w s).relabel f = takeWord w (s.relabel f) :=
  relabel_ite f (relabel_answer_word f hd w s) rfl

theorem relabel_takeGeomWord (w : Word) (s : Block.State α) : (takeGeomWord w s).relabel f = takeGeomWord w (s.relabel f) :=
  (relabel_takeWord f hd w _).trans (congrArg (takeWord w) (relabel_ite f (relabel_answer_word f hd 0 s) rfl))

theorem relabel_nextGeomWord (w : Word) (s : Block.State α) : (nextGeomWord w s).relabel f = nextGeomWord w (s.relabel f) :=
  relabel_ite f (relabel_takeGeomWord f hd w s) rfl

theorem relabel_execRespDone (code : Word) : execRespDone code (s.relabel f) = relabelOutcome f (execRespDone code s) := by
  refine relabelOutcome_ite f ?_ rfl
  rw [relabelOutcome, ← relabel_runOn f _ hd, relabel_takeWord f hd]

theorem relabel_execRespGeometry (g0 g1 g2 g3 : Word) :
    execRespGeometry g0 g1 g2 g3 (s.relabel f) = relabelOutcome f (execRespGeometry g0 g1 g2 g3 s) := by
  refine relabelOutcome_ite f ?_ rfl
  rw [relabelOutcome, ← relabel_runOn f _ hd, relabel_nextGeomWord f hd, relabel_nextGeomWord f hd, relabel_nextGeomWord f hd,
    relabel_takeGeomWord f hd]

theorem relabel_execWireFlashBlock (runlen : BitVec 16) (offset : Word) (data : List Word) (checksum : Word) :
    execWireFlashBlock runlen offset data checksum (s.relabel f) =
      relabelOutcome f (execWireFlashBlock runlen offset data checksum s) :=
  relabel_launchIf f s hd (fun _ => rfl) _

theorem relabel_execHostWrite (offset : Word) (payload : List Byte) :
    execHostWrite offset payload (s.relabel f) = relabelOutcome f (execHostWrite offset payload s) :=
  relabelOutcome_ite f rfl (relabel_launch f s hd (relabel_beginWrite f offset payload))

theorem relabel_execCycle (tag : Tag) (packet : List Word) :
    execCycle tag packet (s.relabel f) = relabelOutcome f (execCycle tag packet s) :=
  relabelOutcome_ite f (relabel_launchIf f s hd (fun _ => rfl) _) rfl

end

/-! ### A step -/

section

variable (f : TransportErr TransportValue → TransportErr TransportValue)
  (hd : ∀ n, f (Config.drainLimitError n) = Config.drainLimitError n)

include hd in
theorem relabel_exec (i : Instr) (s : State) : exec i (s.relabel f) = relabelOutcome f (exec i s) := by
  cases i with
  | wireProbe | wireEraseAll | wireEraseBlock | pack | drain | geomRead => exact relabel_launch f s hd fun _ => rfl
  | wireFlashBlock runlen offset data checksum => exact relabel_execWireFlashBlock f s hd runlen offset data checksum
  | respDone code => exact relabel_execRespDone f s hd code
  | respGeometry g0 g1 g2 g3 => exact relabel_execRespGeometry f s hd g0 g1 g2 g3
  | hostProbe => exact relabel_launch f s hd fun _ => rfl
  | hostErase first last => exact relabel_launch f s hd (relabel_beginErase f first last)
  | hostWrite offset payload => exact relabel_execHostWrite f s hd offset payload
  | cycle tag packet => exact relabel_execCycle f s hd tag packet

/-- What is fetched, under another name. -/
def Fetched.relabel : Fetched TransportValue → Fetched TransportValue
  | .wait => .wait
  | .resume => .resume
  | .run i s => .run i (s.relabel f)
  | .reject e => .reject e

theorem relabel_fetchCall (s : State) : fetchCall (s.relabel f) = (fetchCall s).relabel f := by
  simp only [fetchCall, relabel_calls, relabel_cfg, relabel_bank]
  cases s.calls with
  | nil => rfl
  | cons c rest =>
    cases c with
    | host | part => rfl
    | packet ws =>
      dsimp only
      cases decodePacket s.cfg s.bank.bufAlign ws <;> rfl

theorem relabel_fetchResponse (s : State) : fetchResponse (s.relabel f) = (fetchResponse s).relabel f := by
  simp only [fetchResponse, relabel_replies]
  cases s.replies with
  | nil => rfl
  | cons r rest =>
    cases hg : r.good with
    | true =>
      simp only [List.map_cons, relabel_good, relabel_word, hg, if_true]
      rfl
    | false =>
      simp only [List.map_cons, relabel_good, hg, Bool.false_eq_true, if_false]
      rfl

theorem relabel_fetch (s : State) : fetch (s.relabel f) = (fetch s).relabel f := by
  by_cases hidle : s.phase = .idle
  · rw [fetch_idle hidle, fetch_idle (s := s.relabel f) hidle, relabel_fetchCall]
  · by_cases hresp : s.phase = .respRead
    · rw [fetch_respRead hresp, fetch_respRead (s := s.relabel f) hresp, relabel_fetchResponse]
    · rw [fetch_elsewhere hidle hresp, fetch_elsewhere (s := s.relabel f) hidle hresp]
      rfl

theorem relabel_resetNow (s : State) : s.resetNow.relabel f = { (s.relabel f).resetNow with err := State.reset.err.relabel f } := rfl

theorem step_illFormed {i : Instr} {s t : State} (h : s.resetLine = false) (hf : fetch s = .run i t)
    (hwf : i.wf t.cfg t.bank.bufLen t.bank.bufAlign = false) : step s = .refused .illFormed := by
  simp [step, h, hf, hwf]

theorem step_reject {e : DecodeError} {s : State} (h : s.resetLine = false) (hf : fetch s = .reject e) :
    step s = .refused (.undecodable e) := by
  simp [step, h, hf]

include hd in
theorem relabel_step (s : State) (hreset : s.resetLine = true → f State.reset.err.transport = State.reset.err.transport) :
    step (s.relabel f) = relabelOutcome f (step s) := by
  cases hline : s.resetLine with
  | true =>
    have herr : (State.reset.err.relabel f) = State.reset.err := by
      rw [Block.ErrRegs.relabel, hreset hline]
    rw [step_reset hline, step_reset (s := s.relabel f) hline, relabelOutcome, relabel_resetNow, herr]
    rfl
  | false =>
    have hfetch := relabel_fetch f s
    cases h : fetch s with
    | wait =>
      rw [h] at hfetch
      rw [step_wait hline h, step_wait (s := s.relabel f) hline hfetch]
      rfl
    | resume =>
      rw [h] at hfetch
      rw [step_resume hline h, step_resume (s := s.relabel f) hline hfetch, relabel_runOn f s hd]
      rfl
    | run i t =>
      rw [h] at hfetch
      cases hwf : i.wf t.cfg t.bank.bufLen t.bank.bufAlign with
      | true => rw [step_run hline h hwf, step_run (s := s.relabel f) hline hfetch hwf, relabel_exec f hd]
      | false =>
        rw [step_illFormed hline h hwf, step_illFormed (s := s.relabel f) hline hfetch hwf]
        rfl
    | reject e =>
      rw [h] at hfetch
      rw [step_reject hline h, step_reject (s := s.relabel f) hline hfetch]
      rfl

end

/-- Settles O54. -/
theorem transportErrorsAreOnlyCopied : Obligations.TransportErrorsAreOnlyCopied := by
  refine ⟨fun α β _ _ f s hd => ⟨relabel_tick f s hd, relabel_launch f s hd fun _ => rfl, relabel_launch f s hd fun _ => rfl,
    fun _ _ => relabel_launch f s hd fun _ => rfl, relabel_execWireFlashBlock f s hd,
    relabel_execRespDone f s hd, relabel_execRespGeometry f s hd, relabel_launch f s hd fun _ => rfl,
    fun first last => relabel_launch f s hd (relabel_beginErase f first last), relabel_execHostWrite f s hd,
    fun _ _ => relabel_launch f s hd fun _ => rfl, relabel_execCycle f s hd, relabel_launch f s hd fun _ => rfl,
    relabel_launch f s hd fun _ => rfl⟩, fun f s hd hreset => relabel_step f hd s hreset⟩

end Sys2Proof.Machine
end

section
/-! What an earlier operation left in `PSTATE` and in the error registers makes no difference to the next (60_exceptions.md R238):
acceptance writes the first over, and the engine never reads the others. -/

namespace Sys2Proof.Machine

variable {s t u : State}

/-! ### Error registers that agree -/

theorem agree_record (e : ErrInfo) (o : Option Word) (r q : ErrRegs) : (r.record e o).Agree (q.record e o) := by
  refine ⟨rfl, fun h => ?_, fun h => ?_, fun _ => rfl, fun _ h => ?_⟩
  · cases e with
    | protocolFailure => exact ⟨rfl, rfl⟩
    | transportTimeout | bankNotProbed | bankInvalid | targetNotRunning | transportError => cases h
  · cases e with
    | transportError => exact rfl
    | transportTimeout | bankNotProbed | bankInvalid | targetNotRunning | protocolFailure => cases h
  · obtain ⟨w, rfl⟩ : ∃ w, o = some w := Option.isSome_iff_exists.mp h
    rfl

theorem agree_none (r q : ErrRegs) : ({ r with kind := .none } : ErrRegs).Agree { q with kind := .none } :=
  ⟨rfl, nofun, nofun, fun h => absurd rfl h, fun h => absurd rfl h⟩

/-- A tick does the same whatever the error registers hold, and leaves them in agreement where they agreed. -/
theorem TickTo.withErr (h : TickTo s t) {r : ErrRegs} (ha : r.Agree s.err) :
    ∃ r', TickTo { s with err := r } { t with err := r' } ∧ r'.Agree t.err := by
  cases h
  case runErase hp hr hg ho => exact ⟨r, .runErase hp hr hg ho, ha⟩
  case runWrite hp hr hg ho => exact ⟨r, .runWrite hp hr hg ho, ha⟩
  case runBare hp hr hg ho => exact ⟨r, .runBare hp hr hg ho, ha⟩
  case runDown hp hr hg => exact ⟨_, .runDown hp hr hg, agree_record ..⟩
  case pollOver hp hr hg hx => exact ⟨_, .pollOver hp hr hg hx, agree_record ..⟩
  case pollWord hp hr hg hx => exact ⟨r, .pollWord hp hr hg hx, ha⟩
  case pollEnd hp hr hg hw => exact ⟨r, .pollEnd hp hr hg hw, ha⟩
  case pollEndBare hp hr hg hw => exact ⟨r, .pollEndBare hp hr hg hw, ha⟩
  case drainWord hp hr hg => exact ⟨r, .drainWord hp hr hg, ha⟩
  case drainFail hp hr hg => exact ⟨_, .drainFail hp hr hg, agree_record ..⟩
  case sendOk hp hr hg => exact ⟨r, .sendOk hp hr hg, ha⟩
  case sendFail hp hr hg => exact ⟨_, .sendFail hp hr hg, agree_record ..⟩
  case handshake hp => exact ⟨r, .handshake hp, ha⟩
  case ack hp hr hg => exact ⟨r, .ack hp hr hg, ha⟩
  case noAck hp hr hg => exact ⟨_, .noAck hp hr hg, agree_record ..⟩
  case response hp hr hg => exact ⟨r, .response hp hr hg, ha⟩
  case responseFail hp hr hg => exact ⟨_, .responseFail hp hr hg, agree_record ..⟩
  case doneBare hp hd hw => exact ⟨r, .doneBare hp hd hw, ha⟩
  case doneProbe hp hd hw ho => exact ⟨r, .doneProbe hp hd hw ho, ha⟩
  case doneErase hp hd hw ho => exact ⟨_, .doneErase hp hd hw ho, agree_none ..⟩
  case doneWrite hp hd hw ho => exact ⟨r, .doneWrite hp hd hw ho, ha⟩
  case notDone hp hd => exact ⟨_, .notDone hp hd, agree_record ..⟩
  case geomAck hp hr hg => exact ⟨r, .geomAck hp hr hg, ha⟩
  case geomKeep hp hr hg ht => exact ⟨r, .geomKeep hp hr hg ht, ha⟩
  case geomTimeout hp hr hg ht => exact ⟨_, .geomTimeout hp hr hg ht, agree_record ..⟩
  case geomWord hp hr hg hi => exact ⟨r, .geomWord hp hr hg hi, ha⟩
  case geomLast hp hr hg hi hw => exact ⟨r, .geomLast hp hr hg hi hw, ha⟩
  case geomLastBare hp hr hg hi hw => exact ⟨r, .geomLastBare hp hr hg hi hw, ha⟩
  case geomFail hp hr hg => exact ⟨_, .geomFail hp hr hg, agree_record ..⟩
  case geomAccepted hp hv => exact ⟨_, .geomAccepted hp hv, agree_none ..⟩
  case geomRejected hp hv => exact ⟨_, .geomRejected hp hv, agree_record ..⟩
  case chunkNone hp hn => exact ⟨_, .chunkNone hp hn, agree_none ..⟩
  case chunkNext hp hn => exact ⟨r, .chunkNext hp hn, ha⟩

/-- So does a run. -/
theorem runOn_withErr {r : ErrRegs} (ha : r.Agree u.err) :
    ∃ r', runOn { u with err := r } = { runOn u with err := r' } ∧ r'.Agree (runOn u).err := by
  obtain ⟨r', hrun, ha'⟩ := runOn_keeps (P := fun t => ∃ r', runOn { u with err := r } = runOn { t with err := r' } ∧ r'.Agree t.err)
    (fun v t ⟨r', hrun, ha⟩ ht => by
      obtain ⟨r'', hto, ha'⟩ := (tick_to ht).withErr ha
      exact ⟨r'', hrun.trans hto.runOn, ha'⟩) ⟨r, rfl, ha⟩
  have hstop : tick { runOn u with err := r' } = none := (tick_none_iff _).mpr ((tick_none_iff (runOn u)).mp (tick_runOn u))
  exact ⟨r', hrun.trans (runOn_stop hstop), ha'⟩

/-! ### Host operations -/

/-- Where a host operation starts, before its first call. -/
def hostBegin : HostOp → State → State
  | .probe => beginProbe
  | .erase first last => beginErase first last
  | .write offset payload => beginWrite offset payload

/-- A host operation that no request can hold (20_memory.md R61). -/
def hostTooLong (p : Params) : HostOp → Bool
  | .probe => false
  | .erase _ _ => false
  | .write _ payload => payloadTooLong p payload

theorem exec_host (h : HostOp) (he : s.engaged = false) :
    exec h.instr s = if hostTooLong s.cfg h = true then .refused .payloadTooLong else .next (runOn (hostBegin h s.bare)) := by
  cases h with
  | probe | erase => exact launch_ready he
  | write offset payload =>
    cases hp : payloadTooLong s.cfg payload with
    | true => exact (if_pos ⟨he, hp⟩).trans (if_pos hp).symm
    | false => exact ((if_neg (by simp [hp])).trans (launch_ready he)).trans (if_neg (by simp [hostTooLong, hp])).symm

/-- Acceptance writes the error kind and `PSTATE` over. -/
theorem begin_kind (h : HostOp) (s : State) (k : ErrKind) (q : PState) :
    hostBegin h (Block.State.bare { s with err := { s.err with kind := k }, pstate := q }) = hostBegin h s.bare := by
  cases h <;> rfl

/-- What acceptance leaves in the other error registers stays there, and nothing else depends on it. -/
theorem begin_withErr (h : HostOp) (s : State) (e : ErrRegs) (q : PState) :
    ∃ r, hostBegin h (Block.State.bare { s with err := e, pstate := q }) = { hostBegin h s.bare with err := r } ∧
      r.Agree (hostBegin h s.bare).err := by
  cases h with
  | probe => exact ⟨_, rfl, agree_none e s.err⟩
  | erase first last =>
    cases hb : s.probed with
    | true =>
      rw [hostBegin, beginErase_probed first last hb, beginErase_probed (s := { s with err := e, pstate := q }) first last hb]
      exact ⟨_, rfl, agree_none e s.err⟩
    | false =>
      rw [hostBegin, beginErase_unprobed first last hb, beginErase_unprobed (s := { s with err := e, pstate := q }) first last hb]
      exact ⟨_, rfl, agree_record ..⟩
  | write offset payload =>
    cases hb : s.probed with
    | true =>
      rw [hostBegin, beginWrite_probed offset payload hb, beginWrite_probed (s := { s with err := e, pstate := q }) offset payload hb]
      exact ⟨_, rfl, agree_none e s.err⟩
    | false =>
      rw [hostBegin, beginWrite_unprobed offset payload hb,
        beginWrite_unprobed (s := { s with err := e, pstate := q }) offset payload hb]
      exact ⟨_, rfl, agree_record ..⟩

/-- Settles O56. -/
theorem errorsDoNotOutlastTheNextAcceptance : Obligations.ErrorsDoNotOutlastTheNextAcceptance := by
  intro s h e q he
  have hsame := exec_host h he
  have hother := exec_host (s := { s with err := e, pstate := q }) h he
  refine ⟨?_, fun r hr => ?_, fun t ht => ?_⟩
  · rw [hsame, exec_host (s := { s with err := { s.err with kind := e.kind }, pstate := q }) h he, begin_kind]
  · rw [hsame] at hr
    rw [hother]
    split at hr
    · next hlong => rw [if_pos hlong, hr]
    · cases hr
  · rw [hsame] at ht
    rw [hother]
    split at ht
    · cases ht
    · next hlong =>
      obtain rfl := Host.Outcome.next.inj ht
      obtain ⟨r, hbegin, ha⟩ := begin_withErr h s e q
      obtain ⟨r', hrun, ha'⟩ := runOn_withErr ha
      exact ⟨r', by rw [if_neg hlong, hbegin, hrun], ha'⟩

end Sys2Proof.Machine
end
